-- ==== Sys2Proof/Word.lean ====
section
/-! DEFINITION. The widths of the block's values (spec/00_scope.md R12: unsigned, `BitVec` where the spec fixes a width). -/

namespace Sys2Proof

/-- A byte: 8 bits, unsigned (R12). -/
abbrev Byte := BitVec 8

/-- A priority register: 4 bits (spec/10_state.md R22, R31, R53), wide enough for `N_PRIO ≤ 16` (R10). -/
abbrev Prio := BitVec 4

/-- A 16-bit length or content offset (spec/10_state.md R22, R24, R25). -/
abbrev W16 := BitVec 16

/-- A 32-bit value: the checksum, `burst`, the CFG fields (spec/10_state.md R26, R33, R43). -/
abbrev W32 := BitVec 32

/-- A 64-bit value: sequence numbers, statistics, the clock, a host register (spec/10_state.md R40). -/
abbrev W64 := BitVec 64

/-- A byte offset of the host register space: 18 bits (spec/20_memory.md R77). -/
abbrev Addr := BitVec 18

end Sys2Proof
end

