-- ==== Sys2Proof/Config.lean ====
section
/-! DEFINITION. The build parameters (spec/00_scope.md R10), the constants that follow from the frame layout, and the free
values: opaque constants that stand for what the spec leaves open. -/

namespace Sys2Proof

/-- A packet as the filters see it (spec/40_deframer.md R165, spec/41_framer.md R212). A received packet has `cont` = false. -/
structure Packet where
  prio    : Prio
  seq     : W64
  len     : W16
  cont    : Bool
  init    : Bool
  ack     : Bool
  csum    : W32
  content : List Byte
deriving DecidableEq, Repr

/-- Which checksum function the build has (R10 `CHECKSUM`, spec/30_encoding.md R104). DESIGN CHOICE, log 2: `custom n` is any
other total function, the opaque `Config.customChecksum n`. -/
inductive ChecksumFn where
  | byteSum
  | custom (n : Nat)
deriving DecidableEq, Repr

/-- Which filter the build has (R10 `rx_accept`, `tx_accept`). DESIGN CHOICE, log 2: `custom n` is any predicate, the opaque
`Config.customFilter n`. -/
inductive FilterFn where
  | acceptAll
  | rejectAll
  | custom (n : Nat)
deriving DecidableEq, Repr

/-- The build parameters of R10. A model takes them as an argument: State carries them and no step changes them (log 1). -/
structure Params where
  nPrio    : Nat
  capacity : Nat
  qdepth   : Nat
  startTok : Byte
  escTok   : Byte
  checksum : ChecksumFn
  rxAccept : FilterFn
  txAccept : FilterFn
deriving DecidableEq, Repr

/-- The defaults of R10. -/
def Params.default : Params :=
  { nPrio := 4, capacity := 256, qdepth := 4, startTok := 0x7E, escTok := 0x7D,
    checksum := .byteSum, rxAccept := .acceptAll, txAccept := .acceptAll }

/-- The legal values of R10. -/
abbrev Params.Legal (P : Params) : Prop :=
  (1 ≤ P.nPrio ∧ P.nPrio ≤ 16) ∧ (1 ≤ P.capacity ∧ P.capacity ≤ 8192) ∧ (1 ≤ P.qdepth ∧ P.qdepth ≤ 255) ∧
    P.startTok ≠ P.escTok ∧ 16 ≤ P.startTok.toNat ∧ 16 ≤ P.escTok.toNat

/-- `HDR_LEN`: header bytes, fixed (R10). -/
def hdrLen : Nat := 13

/-- `FTR_LEN`: footer bytes, fixed (R10). -/
def ftrLen : Nat := 4

/-- `SENTINEL`, the "never sent" sequence number (R11). -/
def sentinel : W64 := 0xFFFFFFFFFFFFFFFF#64

/-- The two stores (spec/20_memory.md R70 to R72). -/
inductive Side where
  | rx
  | tx
deriving DecidableEq, Repr

/-- FREE VALUE (R10 `CHECKSUM`): the n-th checksum function other than the byte sum. -/
opaque Config.customChecksum : Nat → List Byte → W32

/-- FREE VALUE (R10 filters): the n-th packet predicate. -/
opaque Config.customFilter : Nat → Packet → Bool

/-- FREE VALUE (spec/70_reset_and_hazards.md R360, spec/93_implementation_defined.md I1): the byte that a slot's content holds
at an offset nothing has written since the hard reset of that number. Log 3. -/
opaque Config.unspecifiedByte : (resets : Nat) → Side → Prio → (offset : Nat) → Byte

/-- FREE VALUE (spec/41_framer.md R213): a latency divided by `tx_total` = 0, which the rule derives never to happen. Log 10. -/
opaque Config.latencyOverZero : W64 → W64

end Sys2Proof
end

