-- ==== Sys2Proof/Syntax.lean ====
section
/-! DEFINITION. The operations of the block (spec/30_encoding.md R111 to R116), one constructor for each row of
spec/opcode_table.json. An operand is the part of the operation word that the row leaves free. -/

namespace Sys2Proof

/-- An operation: `df…` deframer steps (R114), `fr…` framer ticks (R115), `hr…` host reads, `hw…` host writes and `hbErr`
(R116). Operands: `b` the link-in byte, `low` bit 0 of a reserved `dstate`, `f` the `fstate` of a disabled tick, `v` the value
written, `p` the priority of a per-priority block, `k` the register of the block, `i` the index of a content register, `we` and
`a` the direction and offset of an access to no register. -/
inductive Instr where
  | dfWfpStart
  | dfWfpOther (b : Byte)
  | dfRhStart
  | dfRhEsc
  | dfRhByte (b : Byte)
  | dfRcStartLast
  | dfRcStart
  | dfRcByte (b : Byte)
  | dfDstcEsc
  | dfDstcStart
  | dfDstcOther (b : Byte)
  | dfRfStartLast
  | dfRfStart
  | dfRfByte (b : Byte)
  | dfDstfEsc
  | dfDstfStart
  | dfDstfOther (b : Byte)
  | dfReserved (low : BitVec 1) (b : Byte)
  | frGnp
  | frShb
  | frWhbi
  | frSb
  | frWbi
  | frWpbi
  | frHalt
  | frReserved
  | frOff (f : BitVec 3)
  | hrParams
  | hwParams (v : W64)
  | hrCtrl
  | hwCtrl (v : W64)
  | hrStatus
  | hwStatus (v : W64)
  | hrCfgMaxBurst
  | hwCfgMaxBurst (v : W64)
  | hrCfgMaxAtomic
  | hwCfgMaxAtomic (v : W64)
  | hrCfgNsPerByte
  | hwCfgNsPerByte (v : W64)
  | hrRxDiscardCount
  | hwRxDiscardCount (v : W64)
  | hrTxWaitUntil
  | hwTxWaitUntil (v : W64)
  | hrDbgRx
  | hwDbgRx (v : W64)
  | hrDbgTx
  | hwDbgTx (v : W64)
  | hrTxSel
  | hwTxSel (v : W64)
  | hrTxSeq
  | hwTxSeq (v : W64)
  | hrTxLen
  | hwTxLen (v : W64)
  | hrTxFlags
  | hwTxFlags (v : W64)
  | hrTxCommit
  | hwTxCommit (v : W64)
  | hrTxCount
  | hwTxCount (v : W64)
  | hrRxSel
  | hwRxSel (v : W64)
  | hrRxCount
  | hwRxCount (v : W64)
  | hrRxHeadSeq
  | hwRxHeadSeq (v : W64)
  | hrRxHeadLen
  | hwRxHeadLen (v : W64)
  | hrRxHeadFlags
  | hwRxHeadFlags (v : W64)
  | hrRxHeadCsum
  | hwRxHeadCsum (v : W64)
  | hrRxHeadTime
  | hwRxHeadTime (v : W64)
  | hrRxConsume
  | hwRxConsume (v : W64)
  | hrStatSent (p : Prio)
  | hrStatRetx (p : Prio)
  | hrStatReliable (p : Prio)
  | hrStatLatency (p : Prio)
  | hrStatLatPerByte (p : Prio)
  | hrLastSeq (p : Prio)
  | hrTxTotal (p : Prio)
  | hrTxBreak (p : Prio)
  | hrRxActive (p : Prio)
  | hrRxBreak (p : Prio)
  | hrRxSlotSeq (p : Prio)
  | hrRxSlotLen (p : Prio)
  | hwPrioBlock (p : Prio) (k : BitVec 4) (v : W64)
  | hrTxContent (i : BitVec 13)
  | hwTxContent (i : BitVec 13) (v : W64)
  | hrRxContent (i : BitVec 13)
  | hwRxContent (i : BitVec 13) (v : W64)
  | hbErr (we : Bool) (a : Addr) (v : W64)
deriving DecidableEq, Repr

end Sys2Proof
end

