-- ==== Sys2Proof/WellFormed.lean ====
section
/-! DEFINITION. Which terms of `Instr` stand for an operation of the block with parameters `P`: the byte class of a deframer
operand (spec/30_encoding.md R114), the priority and content index a mapped offset can name, and the offsets that are no
register (spec/42_host_interface.md R260). -/

namespace Sys2Proof

/-- The offsets of the global, TX and RX registers (spec/10_state.md R40). -/
def globalOffsets : List Addr :=
  [0x000, 0x008, 0x010, 0x018, 0x020, 0x028, 0x030, 0x038, 0x040, 0x048] ++
  [0x080, 0x088, 0x090, 0x098, 0x0A0, 0x0A8] ++
  [0x0C0, 0x0C8, 0x0D0, 0x0D8, 0x0E0, 0x0E8, 0x0F0, 0x0F8]

/-- A host offset holds a register: aligned to 8 and in the map (spec/10_state.md R40, R51, R52, spec/20_memory.md R81). -/
def Params.mapped (P : Params) (a : Addr) : Bool :=
  a.toNat % 8 == 0 &&
  (globalOffsets.contains a ||
   (0x800 ≤ a.toNat && (a.toNat - 0x800) / 0x80 < P.nPrio && (a.toNat - 0x800) % 0x80 ≤ 0x58) ||
   (0x10000 ≤ a.toNat && (a.toNat - 0x10000) / 8 < P.capacity) ||
   (0x20000 ≤ a.toNat && (a.toNat - 0x20000) / 8 < P.capacity))

/-- Class `O` (R111): neither token. -/
def Params.isOther (P : Params) (b : Byte) : Bool := b != P.startTok && b != P.escTok

/-- A term of `Instr` that an operation word of the block decodes to. -/
def wellFormed (P : Params) : Instr → Bool
  | .dfWfpOther b | .dfRcByte b | .dfRfByte b => b != P.startTok
  | .dfRhByte b | .dfDstcOther b | .dfDstfOther b => P.isOther b
  | .hrStatSent p | .hrStatRetx p | .hrStatReliable p | .hrStatLatency p | .hrStatLatPerByte p | .hrLastSeq p
  | .hrTxTotal p | .hrTxBreak p | .hrRxActive p | .hrRxBreak p | .hrRxSlotSeq p | .hrRxSlotLen p => p.toNat < P.nPrio
  | .hwPrioBlock p k _ => p.toNat < P.nPrio && k.toNat ≤ 11
  | .hrTxContent i | .hwTxContent i _ | .hrRxContent i | .hwRxContent i _ => i.toNat < P.capacity
  | .hbErr we a v => !P.mapped a && (we || v == 0)
  | .dfWfpStart | .dfRhStart | .dfRhEsc | .dfRcStartLast | .dfRcStart | .dfDstcEsc | .dfDstcStart | .dfRfStartLast
  | .dfRfStart | .dfDstfEsc | .dfDstfStart | .dfReserved _ _ => true
  | .frGnp | .frShb | .frWhbi | .frSb | .frWbi | .frWpbi | .frHalt | .frReserved | .frOff _ => true
  | .hrParams | .hrCtrl | .hrStatus | .hrCfgMaxBurst | .hrCfgMaxAtomic | .hrCfgNsPerByte | .hrRxDiscardCount
  | .hrTxWaitUntil | .hrDbgRx | .hrDbgTx | .hrTxSel | .hrTxSeq | .hrTxLen | .hrTxFlags | .hrTxCommit | .hrTxCount
  | .hrRxSel | .hrRxCount | .hrRxHeadSeq | .hrRxHeadLen | .hrRxHeadFlags | .hrRxHeadCsum | .hrRxHeadTime
  | .hrRxConsume => true
  | .hwParams _ | .hwCtrl _ | .hwStatus _ | .hwCfgMaxBurst _ | .hwCfgMaxAtomic _ | .hwCfgNsPerByte _
  | .hwRxDiscardCount _ | .hwTxWaitUntil _ | .hwDbgRx _ | .hwDbgTx _ | .hwTxSel _ | .hwTxSeq _ | .hwTxLen _
  | .hwTxFlags _ | .hwTxCommit _ | .hwTxCount _ | .hwRxSel _ | .hwRxCount _ | .hwRxHeadSeq _ | .hwRxHeadLen _
  | .hwRxHeadFlags _ | .hwRxHeadCsum _ | .hwRxHeadTime _ | .hwRxConsume _ => true

end Sys2Proof
end

