-- ==== Sys2Proof/Decode.lean ====
section
/-! DEFINITION. The operation words (spec/30_encoding.md R111, R112), the decoder (R113 to R116) and after it the encoder. -/

namespace Sys2Proof

/-- An operation word in one of the three formats: `DFB` 11 bits (R111), `FRT` 3 bits, `HBUS` 83 bits (R112). -/
inductive OpWord where
  | dfb (w : BitVec 11)
  | frt (w : BitVec 3)
  | hbus (w : BitVec 83)
deriving DecidableEq, Repr

/-- The selecting conditions that are not in the word (R111, R113, R114): CTRL.TX_EN; `LSR = 1` and the next content byte is the
last; `LSR = 1` and the next footer byte is the last. -/
structure DecodeCtx where
  txEn       : Bool
  lastOfData : Bool
  lastOfFtr  : Bool
deriving DecidableEq, Repr

/-- Why bits are no operation word. -/
inductive DecodeError where
  /-- there are no bits at all -/
  | noBits
  /-- a bit above the format's width is set -/
  | highBits
deriving DecidableEq, Repr

/-- The DFB word of a `dstate` code and a link byte (R111). -/
def dfbWord (d : BitVec 3) (b : Byte) : BitVec 11 := d ++ b
/-- DFB bits [10:8]. -/
def dfbState (w : BitVec 11) : BitVec 3 := w.extractLsb' 8 3
/-- DFB bits [7:0]. -/
def dfbByte (w : BitVec 11) : Byte := w.extractLsb' 0 8

/-- The HBUS word of an access (R112). -/
def hbusWord (we : Bool) (a : Addr) (v : W64) : BitVec 83 := (BitVec.ofBool we ++ a) ++ v
/-- HBUS bit [82]. -/
def hbusWe (w : BitVec 83) : Bool := w.getLsbD 82
/-- HBUS bits [81:64]. -/
def hbusAddr (w : BitVec 83) : Addr := w.extractLsb' 64 18
/-- HBUS bits [63:0]. -/
def hbusData (w : BitVec 83) : W64 := w.extractLsb' 0 64

/-- The offset of register `k` (at byte 8·k) of priority `p`'s block: `0x800 + 0x80·p + 8·k` (spec/10_state.md R51). -/
def blockAddr (p : Prio) (k : BitVec 4) : Addr := ((1#7 ++ p) ++ k) ++ 0#3
/-- The offset of content register `i` of a window: `0x10000 + 8·i` for `base` = 1, `0x20000 + 8·i` for 2 (R52). -/
def contentAddr (base : BitVec 2) (i : BitVec 13) : Addr := (base ++ i) ++ 0#3

/-- A deframer step's operation: the first row of R114 whose state, byte class and condition hold. -/
def decodeDfb (P : Params) (c : DecodeCtx) (d : BitVec 3) (b : Byte) : Instr :=
  match d with
  | 0#3 => if b = P.startTok then .dfWfpStart else .dfWfpOther b
  | 1#3 => if b = P.startTok then .dfRhStart else if b = P.escTok then .dfRhEsc else .dfRhByte b
  | 2#3 => if b = P.startTok then (if c.lastOfData then .dfRcStartLast else .dfRcStart) else .dfRcByte b
  | 3#3 => if b = P.escTok then .dfDstcEsc else if b = P.startTok then .dfDstcStart else .dfDstcOther b
  | 4#3 => if b = P.startTok then (if c.lastOfFtr then .dfRfStartLast else .dfRfStart) else .dfRfByte b
  | 5#3 => if b = P.escTok then .dfDstfEsc else if b = P.startTok then .dfDstfStart else .dfDstfOther b
  | d => .dfReserved (d.extractLsb' 0 1) b

/-- A tick's first operation (R115), after the enable test (spec/41_framer.md R220). -/
def decodeFrt (c : DecodeCtx) (f : BitVec 3) : Instr :=
  if c.txEn then
    match f with
    | 0#3 => .frGnp
    | 1#3 => .frShb
    | 2#3 => .frWhbi
    | 3#3 => .frSb
    | 4#3 => .frWbi
    | 5#3 => .frWpbi
    | 6#3 => .frHalt
    | _ => .frReserved
  else .frOff f

/-- A read of a global, TX or RX register (R116, spec/10_state.md R40); `none` where the map has a gap. -/
def decodeGlobalRead (a : Addr) : Option Instr :=
  match a with
  | 0x000#18 => some .hrParams
  | 0x008#18 => some .hrCtrl
  | 0x010#18 => some .hrStatus
  | 0x018#18 => some .hrCfgMaxBurst
  | 0x020#18 => some .hrCfgMaxAtomic
  | 0x028#18 => some .hrCfgNsPerByte
  | 0x030#18 => some .hrRxDiscardCount
  | 0x038#18 => some .hrTxWaitUntil
  | 0x040#18 => some .hrDbgRx
  | 0x048#18 => some .hrDbgTx
  | 0x080#18 => some .hrTxSel
  | 0x088#18 => some .hrTxSeq
  | 0x090#18 => some .hrTxLen
  | 0x098#18 => some .hrTxFlags
  | 0x0A0#18 => some .hrTxCommit
  | 0x0A8#18 => some .hrTxCount
  | 0x0C0#18 => some .hrRxSel
  | 0x0C8#18 => some .hrRxCount
  | 0x0D0#18 => some .hrRxHeadSeq
  | 0x0D8#18 => some .hrRxHeadLen
  | 0x0E0#18 => some .hrRxHeadFlags
  | 0x0E8#18 => some .hrRxHeadCsum
  | 0x0F0#18 => some .hrRxHeadTime
  | 0x0F8#18 => some .hrRxConsume
  | _ => none

/-- A write of a global, TX or RX register. -/
def decodeGlobalWrite (a : Addr) (v : W64) : Option Instr :=
  match a with
  | 0x000#18 => some (.hwParams v)
  | 0x008#18 => some (.hwCtrl v)
  | 0x010#18 => some (.hwStatus v)
  | 0x018#18 => some (.hwCfgMaxBurst v)
  | 0x020#18 => some (.hwCfgMaxAtomic v)
  | 0x028#18 => some (.hwCfgNsPerByte v)
  | 0x030#18 => some (.hwRxDiscardCount v)
  | 0x038#18 => some (.hwTxWaitUntil v)
  | 0x040#18 => some (.hwDbgRx v)
  | 0x048#18 => some (.hwDbgTx v)
  | 0x080#18 => some (.hwTxSel v)
  | 0x088#18 => some (.hwTxSeq v)
  | 0x090#18 => some (.hwTxLen v)
  | 0x098#18 => some (.hwTxFlags v)
  | 0x0A0#18 => some (.hwTxCommit v)
  | 0x0A8#18 => some (.hwTxCount v)
  | 0x0C0#18 => some (.hwRxSel v)
  | 0x0C8#18 => some (.hwRxCount v)
  | 0x0D0#18 => some (.hwRxHeadSeq v)
  | 0x0D8#18 => some (.hwRxHeadLen v)
  | 0x0E0#18 => some (.hwRxHeadFlags v)
  | 0x0E8#18 => some (.hwRxHeadCsum v)
  | 0x0F0#18 => some (.hwRxHeadTime v)
  | 0x0F8#18 => some (.hwRxConsume v)
  | _ => none

/-- A read of register `k` of priority `p`'s block (R51, spec/42_host_interface.md R284); `none` at offsets 0x60 to 0x78. -/
def decodeBlockRead (p : Prio) (k : BitVec 4) : Option Instr :=
  match k with
  | 0#4 => some (.hrStatSent p)
  | 1#4 => some (.hrStatRetx p)
  | 2#4 => some (.hrStatReliable p)
  | 3#4 => some (.hrStatLatency p)
  | 4#4 => some (.hrStatLatPerByte p)
  | 5#4 => some (.hrLastSeq p)
  | 6#4 => some (.hrTxTotal p)
  | 7#4 => some (.hrTxBreak p)
  | 8#4 => some (.hrRxActive p)
  | 9#4 => some (.hrRxBreak p)
  | 10#4 => some (.hrRxSlotSeq p)
  | 11#4 => some (.hrRxSlotLen p)
  | _ => none

/-- The register access at an offset (R116), `none` where it is misaligned or unmapped (spec/42_host_interface.md R260). -/
def decodeMapped (P : Params) (we : Bool) (a : Addr) (v : W64) : Option Instr :=
  if a.extractLsb' 0 3 ≠ 0#3 then none
  else if a.extractLsb' 11 7 = 1#7 then
    let p : Prio := a.extractLsb' 7 4
    let k : BitVec 4 := a.extractLsb' 3 4
    if P.nPrio ≤ p.toNat then none
    else if we then (if k.toNat ≤ 11 then some (.hwPrioBlock p k v) else none)
    else decodeBlockRead p k
  else if a.extractLsb' 16 2 = 1#2 then
    let i : BitVec 13 := a.extractLsb' 3 13
    if P.capacity ≤ i.toNat then none else some (if we then .hwTxContent i v else .hrTxContent i)
  else if a.extractLsb' 16 2 = 2#2 then
    let i : BitVec 13 := a.extractLsb' 3 13
    if P.capacity ≤ i.toNat then none else some (if we then .hwRxContent i v else .hrRxContent i)
  else if we then decodeGlobalWrite a v
  else decodeGlobalRead a

/-- A host access's operation (R116). The data of a read is ignored (R112, log 15). -/
def decodeHbus (P : Params) (we : Bool) (a : Addr) (v : W64) : Instr :=
  (decodeMapped P we a v).getD (.hbErr we a (if we then v else 0))

/-- The operation a word selects. Total (R113). -/
def decode (P : Params) (c : DecodeCtx) : OpWord → Instr
  | .dfb w => decodeDfb P c (dfbState w) (dfbByte w)
  | .frt w => decodeFrt c w
  | .hbus w => decodeHbus P (hbusWe w) (hbusAddr w) (hbusData w)

/-- The operation word of a number of `nbits` bits: whole bytes, the format told by the width (log 7). -/
def OpWord.ofBits (nbits w : Nat) : Except DecodeError OpWord :=
  if nbits = 0 then .error .noBits
  else if nbits ≤ 8 then (if w < 2 ^ 3 then .ok (.frt (BitVec.ofNat 3 w)) else .error .highBits)
  else if nbits ≤ 16 then (if w < 2 ^ 11 then .ok (.dfb (BitVec.ofNat 11 w)) else .error .highBits)
  else if w < 2 ^ 83 then .ok (.hbus (BitVec.ofNat 83 w)) else .error .highBits

/-- Decode from bits: total, rejecting by name what is no operation word. -/
def decodeBits (P : Params) (c : DecodeCtx) (nbits w : Nat) : Except DecodeError Instr :=
  match OpWord.ofBits nbits w with
  | .ok x => .ok (decode P c x)
  | .error e => .error e

/-- The context in which a table word is read: an enabled framer, and a deframer that is not at the last byte under
LAST_START_RESYNC. The rows DF_RC_START_LAST, DF_RF_START_LAST and FR_OFF share their words with others (log 7). -/
def tableCtx : DecodeCtx := { txEn := true, lastOfData := false, lastOfFtr := false }

/-- The instruction the decoder reads from a table word, with the default parameters. -/
def decodeTableWord (nbits w : Nat) : Option Instr :=
  match decodeBits .default tableCtx nbits w with
  | .ok i => some i
  | .error _ => none

/-- A read word: the data bits are 0 (spec/95_test_vectors.md section 0). -/
def readWord (a : Addr) : OpWord := .hbus (hbusWord false a 0)
/-- A write word. -/
def writeWord (a : Addr) (v : W64) : OpWord := .hbus (hbusWord true a v)

/-- The operation word of an instruction (R111, R112, R114 to R116). -/
def encode (P : Params) : Instr → OpWord
  | .dfWfpStart => .dfb (dfbWord 0 P.startTok)
  | .dfWfpOther b => .dfb (dfbWord 0 b)
  | .dfRhStart => .dfb (dfbWord 1 P.startTok)
  | .dfRhEsc => .dfb (dfbWord 1 P.escTok)
  | .dfRhByte b => .dfb (dfbWord 1 b)
  | .dfRcStartLast => .dfb (dfbWord 2 P.startTok)
  | .dfRcStart => .dfb (dfbWord 2 P.startTok)
  | .dfRcByte b => .dfb (dfbWord 2 b)
  | .dfDstcEsc => .dfb (dfbWord 3 P.escTok)
  | .dfDstcStart => .dfb (dfbWord 3 P.startTok)
  | .dfDstcOther b => .dfb (dfbWord 3 b)
  | .dfRfStartLast => .dfb (dfbWord 4 P.startTok)
  | .dfRfStart => .dfb (dfbWord 4 P.startTok)
  | .dfRfByte b => .dfb (dfbWord 4 b)
  | .dfDstfEsc => .dfb (dfbWord 5 P.escTok)
  | .dfDstfStart => .dfb (dfbWord 5 P.startTok)
  | .dfDstfOther b => .dfb (dfbWord 5 b)
  | .dfReserved low b => .dfb (dfbWord (3#2 ++ low) b)
  | .frGnp => .frt 0
  | .frShb => .frt 1
  | .frWhbi => .frt 2
  | .frSb => .frt 3
  | .frWbi => .frt 4
  | .frWpbi => .frt 5
  | .frHalt => .frt 6
  | .frReserved => .frt 7
  | .frOff f => .frt f
  | .hrParams => readWord 0x000
  | .hwParams v => writeWord 0x000 v
  | .hrCtrl => readWord 0x008
  | .hwCtrl v => writeWord 0x008 v
  | .hrStatus => readWord 0x010
  | .hwStatus v => writeWord 0x010 v
  | .hrCfgMaxBurst => readWord 0x018
  | .hwCfgMaxBurst v => writeWord 0x018 v
  | .hrCfgMaxAtomic => readWord 0x020
  | .hwCfgMaxAtomic v => writeWord 0x020 v
  | .hrCfgNsPerByte => readWord 0x028
  | .hwCfgNsPerByte v => writeWord 0x028 v
  | .hrRxDiscardCount => readWord 0x030
  | .hwRxDiscardCount v => writeWord 0x030 v
  | .hrTxWaitUntil => readWord 0x038
  | .hwTxWaitUntil v => writeWord 0x038 v
  | .hrDbgRx => readWord 0x040
  | .hwDbgRx v => writeWord 0x040 v
  | .hrDbgTx => readWord 0x048
  | .hwDbgTx v => writeWord 0x048 v
  | .hrTxSel => readWord 0x080
  | .hwTxSel v => writeWord 0x080 v
  | .hrTxSeq => readWord 0x088
  | .hwTxSeq v => writeWord 0x088 v
  | .hrTxLen => readWord 0x090
  | .hwTxLen v => writeWord 0x090 v
  | .hrTxFlags => readWord 0x098
  | .hwTxFlags v => writeWord 0x098 v
  | .hrTxCommit => readWord 0x0A0
  | .hwTxCommit v => writeWord 0x0A0 v
  | .hrTxCount => readWord 0x0A8
  | .hwTxCount v => writeWord 0x0A8 v
  | .hrRxSel => readWord 0x0C0
  | .hwRxSel v => writeWord 0x0C0 v
  | .hrRxCount => readWord 0x0C8
  | .hwRxCount v => writeWord 0x0C8 v
  | .hrRxHeadSeq => readWord 0x0D0
  | .hwRxHeadSeq v => writeWord 0x0D0 v
  | .hrRxHeadLen => readWord 0x0D8
  | .hwRxHeadLen v => writeWord 0x0D8 v
  | .hrRxHeadFlags => readWord 0x0E0
  | .hwRxHeadFlags v => writeWord 0x0E0 v
  | .hrRxHeadCsum => readWord 0x0E8
  | .hwRxHeadCsum v => writeWord 0x0E8 v
  | .hrRxHeadTime => readWord 0x0F0
  | .hwRxHeadTime v => writeWord 0x0F0 v
  | .hrRxConsume => readWord 0x0F8
  | .hwRxConsume v => writeWord 0x0F8 v
  | .hrStatSent p => readWord (blockAddr p 0)
  | .hrStatRetx p => readWord (blockAddr p 1)
  | .hrStatReliable p => readWord (blockAddr p 2)
  | .hrStatLatency p => readWord (blockAddr p 3)
  | .hrStatLatPerByte p => readWord (blockAddr p 4)
  | .hrLastSeq p => readWord (blockAddr p 5)
  | .hrTxTotal p => readWord (blockAddr p 6)
  | .hrTxBreak p => readWord (blockAddr p 7)
  | .hrRxActive p => readWord (blockAddr p 8)
  | .hrRxBreak p => readWord (blockAddr p 9)
  | .hrRxSlotSeq p => readWord (blockAddr p 10)
  | .hrRxSlotLen p => readWord (blockAddr p 11)
  | .hwPrioBlock p k v => writeWord (blockAddr p k) v
  | .hrTxContent i => readWord (contentAddr 1 i)
  | .hwTxContent i v => writeWord (contentAddr 1 i) v
  | .hrRxContent i => readWord (contentAddr 2 i)
  | .hwRxContent i v => writeWord (contentAddr 2 i) v
  | .hbErr we a v => .hbus (hbusWord we a v)

/-- The contexts in which a word of the instruction selects it (R113, R114, R115). -/
def selectedIn (c : DecodeCtx) : Instr → Bool
  | .dfRcStartLast => c.lastOfData
  | .dfRcStart => !c.lastOfData
  | .dfRfStartLast => c.lastOfFtr
  | .dfRfStart => !c.lastOfFtr
  | .frOff _ => !c.txEn
  | .frGnp | .frShb | .frWhbi | .frSb | .frWbi | .frWpbi | .frHalt | .frReserved => c.txEn
  | _ => true

end Sys2Proof
end

