-- ==== Sys2Proof/Machine/State.lean ====
section
/-! DEFINITION. The state of the block (spec/10_state.md), its input events, the ways a step can stop, and the state after a
hard reset. -/

namespace Sys2Proof.Machine

/-- Content bytes of a slot or TX entry: (offset, byte) cells, offsets strictly rising, one cell for each offset written since the
last hard reset (spec/10_state.md R25, R37, R38). An unlisted offset holds the UNSPECIFIED byte (log 3). -/
abbrev Memory := List Host.Cell

/-- One copy of a per-priority item for each value of a 4-bit priority; the block has those below `N_PRIO` (log 13). -/
abbrev Bank (α : Type) := Vector α 16

/-- `dstate` (R20; codes spec/30_encoding.md R109). -/
inductive DState where
  | waitingForPacket
  | readingHeader
  | readingContent
  | disambiguateContent
  | readingFooter
  | disambiguateFooter
  | reserved6
  | reserved7
deriving DecidableEq, Repr

/-- `fstate` (R30; codes spec/30_encoding.md R110). -/
inductive FState where
  | gettingNextPacket
  | sendingHeaderBurst
  | waitingForHeaderBurstIngestion
  | sendingBurst
  | waitingForBurstIngestion
  | waitingForPartialBurstIngestion
  | halted
  | reserved7
deriving DecidableEq, Repr

/-- The deframer's registers (R20 to R23, R27). -/
structure Deframer where
  dstate       : DState
  hdrBuf       : Vector Byte 13
  hdrCnt       : BitVec 4
  rxCur        : Prio
  curOff       : W16
  ftrBuf       : Vector Byte 4
  ftrPos       : BitVec 3
  discardCount : W64
  lastCause    : Byte
deriving DecidableEq, Repr

/-- The RX assembling slot (R25). -/
structure RxSlot where
  seq     : W64
  len     : W16
  init    : Bool
  ack     : Bool
  content : Memory
deriving DecidableEq, Repr

/-- A committed RX packet (R26). -/
structure RxEntry where
  seq        : W64
  len        : W16
  init       : Bool
  ack        : Bool
  csum       : W32
  commitTime : W64
  content    : List Byte
deriving DecidableEq, Repr

/-- What the receive side holds for one priority (R24 to R26). `queue` is `RxQ[p]`, oldest entry first. -/
structure RxPrio where
  active : Bool
  brk    : W16
  slot   : RxSlot
  queue  : List RxEntry
deriving DecidableEq, Repr

/-- The framer's registers (R30 to R33). -/
structure Framer where
  fstate     : FState
  txCur      : Prio
  hdrPos     : BitVec 4
  bpos       : W16
  escPending : Bool
  burst      : W32
  waitUntil  : W64
  fDone      : Bool
deriving DecidableEq, Repr

/-- The TX assembling slot (R37). -/
structure TxSlot where
  seq     : W64
  len     : W16
  cont    : Bool
  init    : Bool
  ack     : Bool
  content : Memory
deriving DecidableEq, Repr

/-- A committed TX packet (R38). -/
structure TxEntry where
  seq        : W64
  len        : W16
  cont       : Bool
  init       : Bool
  ack        : Bool
  csum       : W32
  commitTime : W64
  content    : Memory
deriving DecidableEq, Repr

/-- What the transmit side holds for one priority (R34 to R38). `queue` is `TxQ[p]`, oldest entry first. -/
structure TxPrio where
  total      : W16
  brk        : W16
  lastSeq    : W64
  sent       : W64
  retx       : W64
  reliable   : W64
  latency    : W64
  latPerByte : W64
  slot       : TxSlot
  queue      : List TxEntry
deriving DecidableEq, Repr

/-- The stored fields of CTRL, CFG_* and STATUS and the two selectors (R42, R43, R44, R53). -/
structure Control where
  rxEn            : Bool
  txEn            : Bool
  lastStartResync : Bool
  maxBurst        : W32
  maxAtomic       : W32
  nsPerByte       : W32
  fatal           : Bool
  busErr          : Bool
  hostErr         : Bool
  hostErrCause    : BitVec 2
  txSel           : Prio
  rxSel           : Prio
deriving DecidableEq, Repr

/-- The hint a tick returns (spec/41_framer.md R201). -/
inductive Hint where
  | none
  | wait (d : W64)
deriving DecidableEq, Repr

/-- An input of the block (spec/00_scope.md R7 to R9): a byte offered on link in, a framer tick with the transport's answers, a
host access, each with its clock reading, or a hard reset (spec/70_reset_and_hazards.md R360). -/
inductive Event where
  | link (b : Byte) (now : W64)
  | tick (now : W64) (answers : List Nat)
  | host (we : Bool) (a : Addr) (v : W64) (now : W64)
  | hardReset
deriving DecidableEq, Repr

/-- The inputs and outputs of the steps; the model's own fields (log 4, 6, 11, 3). -/
structure Env where
  /-- the input events still to come, the next one first -/
  pending  : List Event
  /-- the clock input of the step being taken (R14) -/
  now      : W64
  /-- the transport's answers still to be given in the tick being taken (R205) -/
  answers  : List Nat
  /-- the bytes that have left on link out, oldest first (R205) -/
  linkOut  : List Byte
  /-- the hint the last tick returned (R201) -/
  hint     : Hint
  /-- the value the last host access returned (R260) -/
  readData : W64
  /-- the last byte offered on link in was consumed (R140, R141) -/
  rxTaken  : Bool
  /-- the number of hard resets so far, which names the unspecified content (R360) -/
  epoch    : Nat
deriving DecidableEq, Repr

/-- The state of the block and of its interfaces. `params` are the build parameters, which no step changes (R10, log 1). -/
structure State where
  params : Params
  rx     : Deframer
  rxPrio : Bank RxPrio
  tx     : Framer
  txPrio : Bank TxPrio
  ctl    : Control
  env    : Env
deriving DecidableEq, Repr

/-- Why the model stops. Each marks a state that the spec derives to be unreachable; stopping there is safe (log 8, log 9). -/
inductive Fault where
  /-- `dstate` is 6 or 7 (R173: "faults"); raised by DF_RESERVED. Safe. -/
  | reservedDState
  /-- `fstate` is 7 (R219: "faults"); raised by FR_RESERVED and by a tick that reaches it. Safe. -/
  | reservedFState
  /-- a frame is being sent and its FIFO is empty (R73: `head` is not defined there); raised by FR_SHB and FR_SB. Safe. -/
  | noHead
  /-- `hdr_cnt` is 13 or more when a header byte arrives (R149 derives it below 13); raised by DF_RH_BYTE. Safe. -/
  | hdrIndex
  /-- `ftr_pos` is 4 or more when a footer byte arrives (R165); raised by DF_RF_BYTE and DF_DSTF_ESC. Safe. -/
  | ftrIndex
  /-- `cur_off` is not below `CAPACITY` when a content byte arrives (R144: "the store is in range"); raised by DF_RC_BYTE and
  DF_DSTC_ESC. Safe. -/
  | contentIndex
  /-- a tick repeats write requests of no byte, so that it would not end (R225 derives that it ends); raised by the tick. Safe. -/
  | endlessTick
deriving DecidableEq, Repr

/-- Why the model refuses. -/
inductive Refusal where
  /-- raised by an arm of `exec` whose instruction has no meaning; no arm does. Safe. -/
  | notModelled (mnemonic : String)
deriving DecidableEq, Repr

/-- The events of the error design (spec/60_exceptions.md R320). -/
inductive ErrorEvent where
  | discard (cause : Byte)
  | fatal
  | busError
  | hostError (cause : BitVec 2)
deriving DecidableEq, Repr

/-- What an operation of a tick answers (spec/41_framer.md R200): the tick goes on, it ends with a hint, or the model stops. -/
inductive TickRes where
  | cont (s : State)
  | ret (s : State) (h : Hint)
  | fault (f : Fault)
deriving DecidableEq, Repr

/-- What the next input event amounts to: none is pending; it is taken without an operation; or it selects one. -/
inductive Fetched where
  | idle
  | done (s : State)
  | run (i : Instr) (s : State)
deriving DecidableEq, Repr

/-- R20 to R23, R27 after a hard reset. -/
def Deframer.reset : Deframer :=
  { dstate := .waitingForPacket, hdrBuf := Vector.replicate 13 0, hdrCnt := 0, rxCur := 0, curOff := 0,
    ftrBuf := Vector.replicate 4 0, ftrPos := 0, discardCount := 0, lastCause := 0 }

/-- R24 to R26 after a hard reset; the content is UNSPECIFIED, so no byte of it is listed. -/
def RxPrio.reset : RxPrio :=
  { active := false, brk := 0, slot := { seq := 0, len := 0, init := false, ack := false, content := [] }, queue := [] }

/-- R30 to R33 after a hard reset. -/
def Framer.reset : Framer :=
  { fstate := .gettingNextPacket, txCur := 0, hdrPos := 0, bpos := 0, escPending := false, burst := 0, waitUntil := 0,
    fDone := false }

/-- R34 to R38 after a hard reset. -/
def TxPrio.reset : TxPrio :=
  { total := 0, brk := 0, lastSeq := sentinel, sent := 0, retx := 0, reliable := 0, latency := 0, latPerByte := 0,
    slot := { seq := 0, len := 0, cont := false, init := false, ack := false, content := [] }, queue := [] }

/-- R42 to R44, R49, R50 after a hard reset. -/
def Control.reset : Control :=
  { rxEn := false, txEn := false, lastStartResync := true, maxBurst := 1, maxAtomic := 1, nsPerByte := 0, fatal := false,
    busErr := false, hostErr := false, hostErrCause := 0, txSel := 0, rxSel := 0 }

/-- The machine right after hard reset (R54, spec/70_reset_and_hazards.md R360), built with the default parameters (R10), with no
input pending and no output made (DESIGN CHOICE, log 4, log 11). -/
def State.reset : State :=
  { params := .default, rx := .reset, rxPrio := Vector.replicate 16 .reset, tx := .reset,
    txPrio := Vector.replicate 16 .reset, ctl := .reset,
    env := { pending := [], now := 0, answers := [], linkOut := [], hint := .none, readData := 0, rxTaken := false,
             epoch := 0 } }

end Sys2Proof.Machine
end

