-- ==== Sys2Proof/Machine/Flags.lean ====
section
/-! DEFINITION. State codes (spec/30_encoding.md R109, R110) and the packed status and debug registers (spec/10_state.md R41, R42,
R44, R47, R48, R49, R50). Concatenations are written most significant field first. -/

namespace Sys2Proof.Machine

/-- The code of a `dstate` (R109). -/
def DState.code : DState → BitVec 3
  | .waitingForPacket => 0
  | .readingHeader => 1
  | .readingContent => 2
  | .disambiguateContent => 3
  | .readingFooter => 4
  | .disambiguateFooter => 5
  | .reserved6 => 6
  | .reserved7 => 7

/-- The `dstate` of a code (R109). -/
def dstateOfCode (c : BitVec 3) : DState :=
  match c with
  | 0#3 => .waitingForPacket
  | 1#3 => .readingHeader
  | 2#3 => .readingContent
  | 3#3 => .disambiguateContent
  | 4#3 => .readingFooter
  | 5#3 => .disambiguateFooter
  | 6#3 => .reserved6
  | _ => .reserved7

/-- The code of an `fstate` (R110). -/
def FState.code : FState → BitVec 3
  | .gettingNextPacket => 0
  | .sendingHeaderBurst => 1
  | .waitingForHeaderBurstIngestion => 2
  | .sendingBurst => 3
  | .waitingForBurstIngestion => 4
  | .waitingForPartialBurstIngestion => 5
  | .halted => 6
  | .reserved7 => 7

/-- The `fstate` of a code (R110). -/
def fstateOfCode (c : BitVec 3) : FState :=
  match c with
  | 0#3 => .gettingNextPacket
  | 1#3 => .sendingHeaderBurst
  | 2#3 => .waitingForHeaderBurstIngestion
  | 3#3 => .sendingBurst
  | 4#3 => .waitingForBurstIngestion
  | 5#3 => .waitingForPartialBurstIngestion
  | 6#3 => .halted
  | _ => .reserved7

/-- PARAMS (R41). -/
def paramsWord (P : Params) : W64 :=
  (((((P.escTok ++ P.startTok) ++ BitVec.ofNat 8 ftrLen) ++ BitVec.ofNat 8 hdrLen) ++ BitVec.ofNat 16 P.capacity) ++
    BitVec.ofNat 8 P.qdepth) ++ BitVec.ofNat 8 P.nPrio

/-- CTRL (R42): action and reserved bits read 0. -/
def ctrlWord (c : Control) : W64 :=
  ((0#61 ++ BitVec.ofBool c.lastStartResync) ++ BitVec.ofBool c.txEn) ++ BitVec.ofBool c.rxEn

/-- STATUS (R44, spec/42_host_interface.md R270). -/
def statusWord (s : State) : W64 :=
  ((((((((((((0#32 ++ s.rx.lastCause) ++ s.tx.txCur) ++ s.rx.rxCur) ++ 0#2) ++ BitVec.ofBool s.tx.fDone) ++
    s.ctl.hostErrCause) ++ BitVec.ofBool s.ctl.hostErr) ++ BitVec.ofBool s.ctl.busErr) ++ BitVec.ofBool s.ctl.fatal) ++
    BitVec.ofBool s.tx.escPending) ++ s.tx.fstate.code) ++ 0#1) ++ s.rx.dstate.code

/-- DBG_RX (R47). -/
def dbgRxWord (d : Deframer) : W64 := (((0#32 ++ d.curOff) ++ 0#9) ++ d.ftrPos) ++ d.hdrCnt

/-- DBG_TX (R48). -/
def dbgTxWord (f : Framer) : W64 := ((f.burst ++ f.bpos) ++ 0#12) ++ f.hdrPos

/-- TX_FLAGS (R49): `cont` bit 0, `init` bit 1, `ack` bit 2. -/
def txFlagsWord (t : TxSlot) : W64 :=
  ((0#61 ++ BitVec.ofBool t.ack) ++ BitVec.ofBool t.init) ++ BitVec.ofBool t.cont

/-- RX_HEAD_FLAGS (R50): bit 0 reads 0. -/
def rxFlagsWord (e : RxEntry) : W64 :=
  ((0#61 ++ BitVec.ofBool e.ack) ++ BitVec.ofBool e.init) ++ 0#1

end Sys2Proof.Machine
end

