-- ==== Sys2Proof/Machine/Wire.lean ====
section
/-! DEFINITION. The wire encoding (spec/30_encoding.md sections 1 to 3): byte order, flags byte, header, checksum, stuffing. -/

namespace Sys2Proof.Machine

/-- `BE_k(v)` (spec/00_scope.md R13): the low `8·k` bits of `v`, most significant byte first. -/
def beBytes : Nat → Nat → List Byte
  | 0, _ => []
  | k + 1, v => beBytes k (v / 256) ++ [BitVec.ofNat 8 v]

/-- `beval(xs)` (R13): the unsigned value of `xs` read most significant byte first. -/
def beVal (xs : List Byte) : Nat := xs.foldl (fun a b => a * 256 + b.toNat) 0

/-- The flags byte (R101), reserved bits 0. -/
def flagsByte (cont init ack : Bool) : Byte :=
  ((0#5 ++ BitVec.ofBool ack) ++ BitVec.ofBool init) ++ BitVec.ofBool cont

/-- `cont` of a flags byte (R101, R102). -/
def flagCont (b : Byte) : Bool := b.getLsbD 0
/-- `init` of a flags byte. -/
def flagInit (b : Byte) : Bool := b.getLsbD 1
/-- `ack` of a flags byte. -/
def flagAck (b : Byte) : Bool := b.getLsbD 2

/-- A priority as the header's priority byte (R100). -/
def prioByte (p : Prio) : Byte := p.setWidth 8

/-- The 13 header bytes (R100). -/
def headerBytes (S : Byte) (p : Prio) (seq : W64) (len : W16) (cont init ack : Bool) : List Byte :=
  [S, prioByte p] ++ beBytes 8 seq.toNat ++ beBytes 2 len.toNat ++ [flagsByte cont init ack]

/-- `CanonHdr` (R105): the fresh header of the packet. -/
def canonHdr (S : Byte) (p : Prio) (seq : W64) (len : W16) (init ack : Bool) : List Byte :=
  headerBytes S p seq len false init ack

/-- The default `CHECKSUM`: the byte sum modulo 2^32 (R104). -/
def byteSum (xs : List Byte) : W32 := xs.foldl (fun a b => a + b.setWidth 32) 0

/-- `CHECKSUM` of the build (R104). -/
def checksum (f : ChecksumFn) (xs : List Byte) : W32 :=
  match f with
  | .byteSum => byteSum xs
  | .custom n => Config.customChecksum n xs

/-- A filter's answer (spec/00_scope.md R10). -/
def accepts (f : FilterFn) (pkt : Packet) : Bool :=
  match f with
  | .acceptAll => true
  | .rejectAll => false
  | .custom n => Config.customFilter n pkt

/-- `PacketSum` (R105); `content` is `content[0..len)`. -/
def packetSum (P : Params) (p : Prio) (seq : W64) (len : W16) (init ack : Bool) (content : List Byte) : W32 :=
  checksum P.checksum (canonHdr P.startTok p seq len init ack ++ content)

/-- The footer (R103). -/
def footerBytes (csum : W32) : List Byte := beBytes 4 csum.toNat

/-- Byte stuffing (R108): every `S` becomes `S E`, every other byte stays. -/
def stuff (S E : Byte) : List Byte → List Byte
  | [] => []
  | b :: bs => if b = S then S :: E :: stuff S E bs else b :: stuff S E bs

/-- Header fields of a 13-byte header (R102). -/
def hdrPrioByte (h : Vector Byte 13) : Byte := h[1]
/-- `seq` of a header. -/
def hdrSeq (h : Vector Byte 13) : W64 := BitVec.ofNat 64 (beVal ((h.toList.drop 2).take 8))
/-- `len` of a header. -/
def hdrLength (h : Vector Byte 13) : W16 := BitVec.ofNat 16 (beVal ((h.toList.drop 10).take 2))
/-- The flags byte of a header. -/
def hdrFlags (h : Vector Byte 13) : Byte := h[12]

end Sys2Proof.Machine
end

