-- ==== Sys2Proof/Machine/Ops.lean ====
section
/-! DEFINITION. The named operations over the state: per-priority access, slot content, the store primitives, error events, soft
resets and flushes, the clock and the link, and the fetch of the next input event. -/

namespace Sys2Proof.Machine

/-! ### Banks -/

/-- The copy of a per-priority item for `p` (spec/00_scope.md R14 `r[p]`). -/
def bankGet {α : Type} (v : Bank α) (p : Prio) : α := v[p.toNat]'p.isLt

/-- Write the copy for `p`. -/
def bankSet {α : Type} (v : Bank α) (p : Prio) (x : α) : Bank α := v.set p.toNat x p.isLt

/-- "For every `p`": one update of every copy. -/
def bankMap {α : Type} (f : α → α) (v : Bank α) : Bank α := Vector.ofFn (fun i => f (v.get i))

/-- Every priority a 4-bit register can name, highest first. -/
def allPrios : List Prio := [0, 1, 2, 3, 4, 5, 6, 7, 8, 9, 10, 11, 12, 13, 14, 15]

/-- The receive side of priority `p`. -/
def State.rxp (s : State) (p : Prio) : RxPrio := bankGet s.rxPrio p
/-- The transmit side of priority `p`. -/
def State.txp (s : State) (p : Prio) : TxPrio := bankGet s.txPrio p
/-- Write the receive side of priority `p`. -/
def State.setRxp (s : State) (p : Prio) (x : RxPrio) : State := { s with rxPrio := bankSet s.rxPrio p x }
/-- Write the transmit side of priority `p`. -/
def State.setTxp (s : State) (p : Prio) (x : TxPrio) : State := { s with txPrio := bankSet s.txPrio p x }

/-! ### Slot content -/

/-- The byte written at an offset since hard reset, if one was. -/
def Memory.read? : Memory → Nat → Option Byte
  | [], _ => none
  | (a, x) :: m, i => if a = i then some x else Memory.read? m i

/-- Write a byte at an offset, keeping the cells' offsets strictly rising. -/
def Memory.write : Memory → Nat → Byte → Memory
  | [], i, x => [(i, x)]
  | (a, y) :: m, i, x =>
    if i < a then (i, x) :: (a, y) :: m else if i = a then (i, x) :: m else (a, y) :: Memory.write m i x

/-- Every offset is above `lo` (or there is no bound yet) and the offsets rise strictly. -/
def Memory.wfFrom : Option Nat → Memory → Bool
  | _, [] => true
  | none, (a, _) :: m => Memory.wfFrom (some a) m
  | some lo, (a, _) :: m => decide (lo < a) && Memory.wfFrom (some a) m

/-- The canonical form: offsets strictly rising. -/
def Memory.wf (m : Memory) : Bool := Memory.wfFrom none m

/-- The byte a slot or TX entry holds at an offset: the byte written, else the UNSPECIFIED byte (spec/10_state.md R25, R37,
spec/93_implementation_defined.md I1). -/
def State.contentByte (s : State) (side : Side) (p : Prio) (m : Memory) (i : Nat) : Byte :=
  (Memory.read? m i).getD (Config.unspecifiedByte s.env.epoch side p i)

/-- `content[a .. a + n)`. -/
def State.contentBytes (s : State) (side : Side) (p : Prio) (m : Memory) (a n : Nat) : List Byte :=
  (List.range n).map (fun k => s.contentByte side p m (a + k))

/-! ### The store primitives (spec/20_memory.md R73) -/

/-- `push(RxQ[p], e)`: append as the newest entry. -/
def State.pushRx (s : State) (p : Prio) (e : RxEntry) : State :=
  s.setRxp p { s.rxp p with queue := (s.rxp p).queue ++ [e] }

/-- `pop(RxQ[p])`: remove the oldest entry. -/
def State.popRx (s : State) (p : Prio) : State := s.setRxp p { s.rxp p with queue := (s.rxp p).queue.tail }

/-- `head(RxQ[p])`, where there is one. -/
def State.headRx? (s : State) (p : Prio) : Option RxEntry := (s.rxp p).queue.head?

/-- `count(RxQ[p])`. -/
def State.countRx (s : State) (p : Prio) : Nat := (s.rxp p).queue.length

/-- `push(TxQ[p], e)`. -/
def State.pushTx (s : State) (p : Prio) (e : TxEntry) : State :=
  s.setTxp p { s.txp p with queue := (s.txp p).queue ++ [e] }

/-- `pop(TxQ[p])`. -/
def State.popTx (s : State) (p : Prio) : State := s.setTxp p { s.txp p with queue := (s.txp p).queue.tail }

/-- `head(TxQ[p])`, where there is one. -/
def State.headTx? (s : State) (p : Prio) : Option TxEntry := (s.txp p).queue.head?

/-- `count(TxQ[p])`. -/
def State.countTx (s : State) (p : Prio) : Nat := (s.txp p).queue.length

/-- Rewrite the head of `TxQ[p]` (spec/10_state.md R38); nothing where the FIFO is empty. -/
def State.setHeadTx (s : State) (p : Prio) (e : TxEntry) : State :=
  s.setTxp p { s.txp p with queue := match (s.txp p).queue with | [] => [] | _ :: q => e :: q }

/-! ### Error events (spec/60_exceptions.md) -/

/-- `raise` (R322, R324, R325): record the event. It saves no other state and transfers control nowhere (R320, R328); the raising
rule says the next state. `Fatal` sets `fstate` itself (R324). -/
def State.raise (ev : ErrorEvent) (s : State) : State :=
  match ev with
  | .discard c => { s with rx := { s.rx with lastCause := c, discardCount := s.rx.discardCount + 1 } }
  | .fatal => { s with tx := { s.tx with fstate := .halted }, ctl := { s.ctl with fatal := true } }
  | .busError => { s with ctl := { s.ctl with busErr := true } }
  | .hostError c => { s with ctl := { s.ctl with hostErr := true, hostErrCause := c } }

/-- Discard cause codes (R321). -/
def causeEscInHeader : Byte := 0x01
/-- R321. -/
def causeBadPriority : Byte := 0x02
/-- R321. -/
def causeBadLength : Byte := 0x03
/-- R321. -/
def causeContMismatch : Byte := 0x04
/-- R321. -/
def causeChecksumMismatch : Byte := 0x05
/-- R321. -/
def causeRxFiltered : Byte := 0x06
/-- R321. -/
def causeRxQueueFull : Byte := 0x07
/-- R321. -/
def causeHeaderResync : Byte := 0x08

/-! ### Resets and flushes (spec/42_host_interface.md R265 to R269, spec/70_reset_and_hazards.md R360) -/

/-- `RxSoftReset()` (R265). -/
def State.rxSoftReset (s : State) : State :=
  { s with
    rx := { s.rx with dstate := .waitingForPacket, hdrCnt := 0, hdrBuf := Vector.replicate 13 0, ftrPos := 0,
                      ftrBuf := Vector.replicate 4 0, rxCur := 0, curOff := 0 }
    rxPrio := bankMap (fun x => { x with active := false, brk := 0 }) s.rxPrio }

/-- `TxSoftReset()` (R266): also the only way a host leaves Halted without dropping packets (R329). -/
def State.txSoftReset (s : State) : State :=
  { s with
    tx := { fstate := .gettingNextPacket, txCur := 0, hdrPos := 0, bpos := 0, escPending := false, burst := 0,
            waitUntil := 0, fDone := false }
    ctl := { s.ctl with fatal := false } }

/-- `RxFlush()` (R267). -/
def State.rxFlush (s : State) : State := { s with rxPrio := bankMap (fun x => { x with queue := [] }) s.rxPrio }

/-- `TxFlush()` (R268). -/
def State.txFlush (s : State) : State :=
  State.txSoftReset { s with txPrio := bankMap (fun x => { x with queue := [] }) s.txPrio }

/-- `StatsClear()` (R269). -/
def State.statsClear (s : State) : State :=
  { s with
    rx := { s.rx with discardCount := 0, lastCause := 0 }
    txPrio := bankMap (fun x => { x with sent := 0, retx := 0, reliable := 0, latency := 0, latPerByte := 0 }) s.txPrio }

/-- Hard reset (spec/70_reset_and_hazards.md R360): every item of spec/10_state.md at its reset value, the parameters unchanged,
the slots' content UNSPECIFIED anew. The inputs still to come and the outputs already made are the environment's (log 12). -/
def State.hardReset (s : State) : State :=
  { State.reset with params := s.params, env := { s.env with epoch := s.env.epoch + 1 } }

/-! ### Link out (spec/41_framer.md R205) -/

/-- The transport's answer to a request of `n` bytes: the next answer given, at most `n`; 0 when none is left (log 6). -/
def State.answer (s : State) (n : Nat) : Nat :=
  match s.env.answers with
  | [] => 0
  | w :: _ => min w n

/-- A write request: the accepted prefix leaves on link out and the answer is used up. -/
def State.offer (s : State) (bs : List Byte) : State :=
  { s with env := { s.env with answers := s.env.answers.tail, linkOut := s.env.linkOut ++ bs.take (s.answer bs.length) } }

/-! ### Fetching the next input event -/

/-- The selecting conditions of R114 and R115 in a state. -/
def State.decodeCtx (s : State) : DecodeCtx :=
  { txEn := s.ctl.txEn
    lastOfData := s.ctl.lastStartResync && s.rx.curOff + 1 == (s.rxp s.rx.rxCur).slot.len
    lastOfFtr := s.ctl.lastStartResync && s.rx.ftrPos + 1 == 4#3 }

/-- Take the event at the front: the clock input and the transport's answers are those of its step. -/
def State.latch (s : State) (rest : List Event) (now : W64) (answers : List Nat) : State :=
  { s with env := { s.env with pending := rest, now := now, answers := answers } }

/-- Mark whether the byte offered on link in was consumed (spec/40_deframer.md R140, R141). -/
def State.setTaken (s : State) (b : Bool) : State := { s with env := { s.env with rxTaken := b } }

/-- The next event's operation word and the state it runs in (spec/30_encoding.md R111 to R113). A byte offered while
CTRL.RX_EN = 0 is not taken and changes nothing else (R141, log 5). -/
def State.fetch (s : State) : Fetched :=
  match s.env.pending with
  | [] => .idle
  | .hardReset :: rest => .done (State.hardReset { s with env := { s.env with pending := rest } })
  | .link b now :: rest =>
    let t := s.latch rest now []
    if s.ctl.rxEn then .run (decode s.params s.decodeCtx (.dfb (dfbWord s.rx.dstate.code b))) (t.setTaken true)
    else .done (t.setTaken false)
  | .tick now answers :: rest =>
    .run (decode s.params s.decodeCtx (.frt s.tx.fstate.code)) (s.latch rest now answers)
  | .host we a v now :: rest =>
    .run (decode s.params s.decodeCtx (.hbus (hbusWord we a v))) (s.latch rest now [])

/-- A packet of no content for `placeWord`. -/
def blankTxEntry : TxEntry :=
  { seq := 0, len := 0, cont := false, init := false, ack := false, csum := 0, commitTime := 0, content := [] }

/-- Make an operation word the one the next step fetches (log 7): the engine state it names, the engine's enable, the event.
FR_SHB, FR_WHBI, FR_SB and FR_WBI are operations of a framer that sends the head of `TxQ[tx_cur]`, so an entry is put there if there
is none. -/
def State.placeWord (s : State) : OpWord → State
  | .dfb w =>
    { s with rx := { s.rx with dstate := dstateOfCode (dfbState w) }
             ctl := { s.ctl with rxEn := true, lastStartResync := false }
             env := { s.env with pending := .link (dfbByte w) s.env.now :: s.env.pending } }
  | .frt w =>
    let t : State :=
      { s with tx := { s.tx with fstate := fstateOfCode w }
               ctl := { s.ctl with txEn := true }
               env := { s.env with pending := .tick s.env.now [] :: s.env.pending } }
    if (w = 1#3 ∨ w = 2#3 ∨ w = 3#3 ∨ w = 4#3) ∧ s.countTx s.tx.txCur = 0 then t.pushTx s.tx.txCur blankTxEntry else t
  | .hbus w =>
    { s with env := { s.env with pending := .host (hbusWe w) (hbusAddr w) (hbusData w) s.env.now :: s.env.pending } }

end Sys2Proof.Machine
end

