-- ==== Sys2Proof/Machine/Operands.lean ====
section
/-! DEFINITION. Operand forms: the fields a host write stores (spec/20_memory.md R79), the values its reads return, the packets
the filters see, and the bytes of the frame being sent (spec/41_framer.md R203, R204). -/

namespace Sys2Proof.Machine

/-- A CFG_MAX_* field (spec/10_state.md R43, spec/42_host_interface.md R272): 0 stores 1. -/
def warlNonzero (v : W64) : W32 := if v.setWidth 32 = 0#32 then 1#32 else v.setWidth 32

/-- A selector write (R49, spec/42_host_interface.md R275): an illegal value leaves the selector unchanged. -/
def warlPrio (P : Params) (old : Prio) (v : W64) : Prio :=
  if v.extractLsb' 4 60 = 0#60 ∧ (v.setWidth 4).toNat < P.nPrio then v.setWidth 4 else old

/-- A count as its register reads it: bits [7:0] (R49, R50). -/
def countWord (n : Nat) : W64 := (BitVec.ofNat 8 n).setWidth 64

/-- The TX slot the host has selected. -/
def State.selTx (s : State) : TxSlot := (s.txp s.ctl.txSel).slot

/-- Write the TX slot the host has selected. -/
def State.setSelTx (s : State) (t : TxSlot) : State := s.setTxp s.ctl.txSel { s.txp s.ctl.txSel with slot := t }

/-- A field of the head of `RxQ[rx_sel]`, 0 when the FIFO is empty (R50, spec/42_host_interface.md R281). -/
def State.rxHeadField (s : State) (f : RxEntry → W64) : W64 :=
  match s.headRx? s.ctl.rxSel with
  | none => 0
  | some e => f e

/-- RX_CONTENT[i] (R52, spec/42_host_interface.md R282). -/
def rxContentWord (i : BitVec 13) (e : RxEntry) : W64 :=
  if i.toNat < e.len.toNat then (e.content.getD i.toNat 0).setWidth 64 else 0

/-- A host read ends: it returns a value and has no side effect (spec/20_memory.md R80). -/
def State.readDone (s : State) (v : W64) : State := { s with env := { s.env with readData := v } }

/-- A host write ends: it returns 0 (spec/42_host_interface.md R260). -/
def State.writeDone (s : State) : State := s.readDone 0

/-- The full content length `L = tx_break[p] + e.len` (spec/41_framer.md R204), an exact sum (log 14). -/
def fullLen (x : TxPrio) (e : TxEntry) : Nat := x.brk.toNat + e.len.toNat

/-- `HdrBytes` (spec/41_framer.md R203). -/
def hdrBytes (P : Params) (p : Prio) (e : TxEntry) : List Byte :=
  headerBytes P.startTok p e.seq e.len e.cont e.init e.ack

/-- `Body` (spec/41_framer.md R204). -/
def State.body (s : State) (p : Prio) (e : TxEntry) : List Byte :=
  s.contentBytes .tx p e.content (s.txp p).brk.toNat e.len.toNat ++ footerBytes e.csum

/-- `Wire(bpos, esc_pending)` (spec/41_framer.md R204). -/
def wire (P : Params) (body : List Byte) (bpos : W16) (escPending : Bool) : List Byte :=
  if escPending then P.escTok :: stuff P.startTok P.escTok (body.drop (bpos.toNat + 1))
  else stuff P.startTok P.escTok (body.drop bpos.toNat)

/-- `Advance(w)` (spec/41_framer.md R204): account for `w` accepted wire bytes of a body, one at a time. -/
def advance (S : Byte) (body : List Byte) : Nat → W16 → Bool → W16 × Bool
  | 0, bpos, esc => (bpos, esc)
  | w + 1, bpos, esc =>
    if esc then advance S body w (bpos + 1) false
    else if body[bpos.toNat]? = some S then advance S body w bpos true
    else advance S body w (bpos + 1) false

/-- The packet a completed reception hands to `rx_accept` (spec/40_deframer.md R165). -/
def rxPacket (p : Prio) (t : RxSlot) (csum : W32) (content : List Byte) : Packet :=
  { prio := p, seq := t.seq, len := t.len, cont := false, init := t.init, ack := t.ack, csum := csum, content := content }

/-- The packet a completed transmission hands to `tx_accept` (spec/41_framer.md R212). -/
def State.txPacket (s : State) (p : Prio) (e : TxEntry) : Packet :=
  { prio := p, seq := e.seq, len := BitVec.ofNat 16 (fullLen (s.txp p) e), cont := e.cont, init := e.init, ack := e.ack,
    csum := e.csum, content := s.contentBytes .tx p e.content 0 (fullLen (s.txp p) e) }

/-- The entry a commit pushes (spec/42_host_interface.md R278). -/
def txEntryOf (t : TxSlot) (now : W64) : TxEntry :=
  { seq := t.seq, len := t.len, cont := t.cont, init := t.init, ack := t.ack, csum := 0, commitTime := now,
    content := t.content }

end Sys2Proof.Machine
end

