-- ==== Sys2Proof/Machine/Deframer.lean ====
section
/-! DEFINITION. The deframer's operations (spec/40_deframer.md), one meaning each over the helper procedures of its section 2. -/

namespace Sys2Proof.Machine

/-- `hdr_buf[i ..) <- xs`. -/
def putBytes (v : Vector Byte 13) : Nat → List Byte → Vector Byte 13
  | _, [] => v
  | i, x :: xs => putBytes (v.setIfInBounds i x) (i + 1) xs

/-- Go to a deframer state. -/
def State.toDState (s : State) (d : DState) : State := { s with rx := { s.rx with dstate := d } }

/-- `StartHeader(xs)` (R142), `xs` of 1 or 2 bytes. -/
def State.startHeader (s : State) (xs : List Byte) : State :=
  { s with rx := { s.rx with hdrBuf := putBytes s.rx.hdrBuf 0 xs, hdrCnt := BitVec.ofNat 4 xs.length,
                             dstate := .readingHeader } }

/-- `Interrupt(xs)` (R143): the reached offset is kept for a continuation. -/
def State.interrupt (s : State) (xs : List Byte) : State :=
  (s.setRxp s.rx.rxCur { s.rxp s.rx.rxCur with brk := s.rx.curOff }).startHeader xs

/-- `StoreContent(c)` (R144). -/
def State.storeContent (s : State) (c : Byte) : Host.Outcome State Fault Refusal :=
  let x := s.rxp s.rx.rxCur
  if s.rx.curOff.toNat < s.params.capacity then
    let t := s.setRxp s.rx.rxCur { x with slot := { x.slot with content := x.slot.content.write s.rx.curOff.toNat c } }
    if s.rx.curOff + 1 = x.slot.len then
      .next { t with rx := { s.rx with curOff := s.rx.curOff + 1, ftrPos := 0, dstate := .readingFooter } }
    else .next { t with rx := { s.rx with curOff := s.rx.curOff + 1, dstate := .readingContent } }
  else .fault .contentIndex

/-- Discard the frame being read and wait for the next one. -/
def State.dropFrame (s : State) (cause : Byte) : State := (s.raise (.discard cause)).toDState .waitingForPacket

/-- AcceptFresh (R153). -/
def State.acceptFresh (s : State) (p : Prio) (seq : W64) (len : W16) (init ack : Bool) : State :=
  let x := s.rxp p
  let t := s.setRxp p { x with active := true, brk := 0,
                               slot := { x.slot with seq := seq, len := len, init := init, ack := ack } }
  { t with rx := { s.rx with rxCur := p, curOff := 0, ftrPos := 0,
                             dstate := if len = 0 then .readingFooter else .readingContent } }

/-- AcceptContinuation (R154). -/
def State.acceptContinuation (s : State) (p : Prio) : State :=
  let x := s.rxp p
  { s with rx := { s.rx with rxCur := p, curOff := x.brk, ftrPos := 0,
                             dstate := if x.brk = x.slot.len then .readingFooter else .readingContent } }

/-- `ProcessHeader()` (R150 to R155) on the completed header. -/
def State.processHeader (s : State) : State :=
  let h := s.rx.hdrBuf
  let p : Prio := (hdrPrioByte h).setWidth 4
  let len := hdrLength h
  let fl := hdrFlags h
  let s := { s with rx := { s.rx with hdrCnt := 0 } }
  let x := s.rxp p
  if s.params.nPrio ≤ (hdrPrioByte h).toNat then s.dropFrame causeBadPriority
  else if flagCont fl = false ∧ s.params.capacity < len.toNat then s.dropFrame causeBadLength
  else if flagCont fl = false then s.acceptFresh p (hdrSeq h) len (flagInit fl) (flagAck fl)
  else if x.active = true ∧ hdrSeq h = x.slot.seq ∧ len = x.slot.len - x.brk then s.acceptContinuation p
  else s.dropFrame causeContMismatch

/-- The validation of a completed footer (R165 to R169), in the order of spec/60_exceptions.md R326. -/
def State.completeFooter (s : State) : State :=
  let p := s.rx.rxCur
  let t := (s.rxp p).slot
  let recv : W32 := BitVec.ofNat 32 (beVal s.rx.ftrBuf.toList)
  let content := s.contentBytes .rx p t.content 0 t.len.toNat
  if recv ≠ packetSum s.params p t.seq t.len t.init t.ack content then s.raise (.discard causeChecksumMismatch)
  else if accepts s.params.rxAccept (rxPacket p t recv content) = false then s.raise (.discard causeRxFiltered)
  else if s.countRx p = s.params.qdepth then s.raise (.discard causeRxQueueFull)
  else s.pushRx p { seq := t.seq, len := t.len, init := t.init, ack := t.ack, csum := recv, commitTime := s.env.now,
                    content := content }

/-- What every footer completion does after its outcome (R165). -/
def State.endPacket (s : State) : State :=
  let t := s.setRxp s.rx.rxCur { s.rxp s.rx.rxCur with active := false }
  { t with rx := { s.rx with ftrPos := 0, dstate := .waitingForPacket } }

/-- `StoreFooter(c, now)` (R165). -/
def State.storeFooter (s : State) (c : Byte) : Host.Outcome State Fault Refusal :=
  if h : s.rx.ftrPos.toNat < 4 then
    let t := { s with rx := { s.rx with ftrBuf := s.rx.ftrBuf.set s.rx.ftrPos.toNat c h, ftrPos := s.rx.ftrPos + 1 } }
    if t.rx.ftrPos.toNat < 4 then .next (t.toDState .readingFooter)
    else .next t.completeFooter.endPacket
  else .fault .ftrIndex

/-- DF_WFP_START (R145). -/
def execDfWfpStart (s : State) : Host.Outcome State Fault Refusal := .next (s.startHeader [s.params.startTok])

/-- DF_WFP_OTHER (R146): the byte is dropped. -/
def execDfWfpOther (_b : Byte) (s : State) : Host.Outcome State Fault Refusal := .next s

/-- DF_RH_START (R147). -/
def execDfRhStart (s : State) : Host.Outcome State Fault Refusal :=
  .next ((s.raise (.discard causeHeaderResync)).startHeader [s.params.startTok])

/-- DF_RH_ESC (R148). -/
def execDfRhEsc (s : State) : Host.Outcome State Fault Refusal :=
  let t := s.dropFrame causeEscInHeader
  .next { t with rx := { t.rx with hdrCnt := 0 } }

/-- DF_RH_BYTE (R149). -/
def execDfRhByte (b : Byte) (s : State) : Host.Outcome State Fault Refusal :=
  if h : s.rx.hdrCnt.toNat < 13 then
    let t := { s with rx := { s.rx with hdrBuf := s.rx.hdrBuf.set s.rx.hdrCnt.toNat b h, hdrCnt := s.rx.hdrCnt + 1 } }
    if t.rx.hdrCnt = 13#4 then .next t.processHeader else .next t
  else .fault .hdrIndex

/-- DF_RC_START (R156): the byte is not stored yet. -/
def execDfRcStart (s : State) : Host.Outcome State Fault Refusal := .next (s.toDState .disambiguateContent)

/-- DF_RC_START_LAST (R157). -/
def execDfRcStartLast (s : State) : Host.Outcome State Fault Refusal := .next (s.interrupt [s.params.startTok])

/-- DF_RC_BYTE (R158). -/
def execDfRcByte (b : Byte) (s : State) : Host.Outcome State Fault Refusal := s.storeContent b

/-- DF_DSTC_ESC (R159). -/
def execDfDstcEsc (s : State) : Host.Outcome State Fault Refusal := s.storeContent s.params.startTok

/-- DF_DSTC_START (R160): the first `S` is dropped. -/
def execDfDstcStart (s : State) : Host.Outcome State Fault Refusal := .next (s.interrupt [s.params.startTok])

/-- DF_DSTC_OTHER (R161). -/
def execDfDstcOther (b : Byte) (s : State) : Host.Outcome State Fault Refusal := .next (s.interrupt [s.params.startTok, b])

/-- DF_RF_START (R162). -/
def execDfRfStart (s : State) : Host.Outcome State Fault Refusal := .next (s.toDState .disambiguateFooter)

/-- DF_RF_START_LAST (R163). -/
def execDfRfStartLast (s : State) : Host.Outcome State Fault Refusal := .next (s.interrupt [s.params.startTok])

/-- DF_RF_BYTE (R164). -/
def execDfRfByte (b : Byte) (s : State) : Host.Outcome State Fault Refusal := s.storeFooter b

/-- DF_DSTF_ESC (R170). -/
def execDfDstfEsc (s : State) : Host.Outcome State Fault Refusal := s.storeFooter s.params.startTok

/-- DF_DSTF_START (R171). -/
def execDfDstfStart (s : State) : Host.Outcome State Fault Refusal := .next (s.interrupt [s.params.startTok])

/-- DF_DSTF_OTHER (R172). -/
def execDfDstfOther (b : Byte) (s : State) : Host.Outcome State Fault Refusal := .next (s.interrupt [s.params.startTok, b])

/-- DF_RESERVED (R173): no rule enters `dstate` 6 or 7; the model faults. -/
def execDfReserved (_low : BitVec 1) (_b : Byte) (_s : State) : Host.Outcome State Fault Refusal := .fault .reservedDState

end Sys2Proof.Machine
end

