-- ==== Sys2Proof/Machine/Framer.lean ====
section
/-! DEFINITION. The framer's operations (spec/41_framer.md) and the tick that repeats them until one returns (R200). -/

namespace Sys2Proof.Machine

/-- `EnterWait(next, final)` (R210): the burst and the tick end. -/
def State.enterWait (s : State) (next : FState) (final : Bool) : TickRes :=
  let d : W64 := s.tx.burst.setWidth 64 * s.ctl.nsPerByte.setWidth 64
  .ret { s with tx := { s.tx with waitUntil := s.env.now + d, fDone := final, fstate := next } } (.wait d)

/-- The priorities whose TX FIFO holds a packet, highest first. -/
def State.waitingPrios (s : State) : List Prio :=
  allPrios.filter (fun q => decide (q.toNat < s.params.nPrio) && decide (0 < s.countTx q))

/-- `Select()` (R202); `none` when every TX FIFO is empty. -/
def State.select? (s : State) : Option Prio := s.waitingPrios.head?

/-- The preemption test of R211: a strictly higher-priority packet is committed. -/
def State.higherWaiting (s : State) : Bool := s.waitingPrios.any (fun q => decide (q.toNat < s.tx.txCur.toNat))

/-- A frame is begun for priority `p` (R206). -/
def State.beginFrame (s : State) (p : Prio) : State :=
  { s with tx := { s.tx with txCur := p, hdrPos := 0, bpos := 0, escPending := false, burst := 0, fDone := false,
                             fstate := .sendingHeaderBurst } }

/-- What the selection of a fresh packet records (R206): its full framed size, no break, its checksum. -/
def State.recordFresh (s : State) (p : Prio) (e : TxEntry) : State :=
  let t := s.setTxp p { s.txp p with total := BitVec.ofNat 16 (hdrLen + e.len.toNat + ftrLen), brk := 0 }
  t.setHeadTx p { e with csum := packetSum s.params p e.seq e.len e.init e.ack
                                   (s.contentBytes .tx p e.content 0 e.len.toNat) }

/-- FR_GNP (R206) and its fatal outcome (R207). -/
def opGnp (s : State) : TickRes :=
  match s.select? with
  | none => .ret s .none
  | some p =>
    match s.headTx? p with
    | none => .ret s .none
    | some e =>
      if e.cont = false then .cont ((s.recordFresh p e).beginFrame p)
      else if (s.txp p).total = 0 ∨ s.params.capacity < fullLen (s.txp p) e then .ret (s.raise .fatal) .none
      else .cont (s.beginFrame p)

/-- The size of a header write (R208). -/
def State.headerChunk (s : State) : Nat :=
  min (min (s.ctl.maxBurst.toNat - s.tx.burst.toNat) s.ctl.maxAtomic.toNat) (13 - s.tx.hdrPos.toNat)

/-- FR_SHB (R208). -/
def opShb (s : State) : TickRes :=
  if s.ctl.maxBurst ≤ s.tx.burst then s.enterWait .waitingForHeaderBurstIngestion false
  else
    match s.headTx? s.tx.txCur with
    | none => .fault .noHead
    | some e =>
      let n := s.headerChunk
      let w := s.answer n
      let t := s.offer (((hdrBytes s.params s.tx.txCur e).drop s.tx.hdrPos.toNat).take n)
      let t := { t with tx := { s.tx with hdrPos := s.tx.hdrPos + BitVec.ofNat 4 w, burst := s.tx.burst + BitVec.ofNat 32 w } }
      if t.tx.hdrPos = 13#4 ∨ t.ctl.maxBurst ≤ t.tx.burst then t.enterWait .waitingForHeaderBurstIngestion false
      else if w < n then .ret t .none
      else .cont t

/-- The wait of the current burst is not over (R209, R216, R217). -/
def State.waiting (s : State) : Bool := decide (s.env.now < s.tx.waitUntil)

/-- The hint of a tick called before the wait is over. -/
def State.waitLeft (s : State) : Hint := .wait (s.tx.waitUntil - s.env.now)

/-- FR_WHBI (R209). -/
def opWhbi (s : State) : TickRes :=
  if s.waiting then .ret s s.waitLeft
  else if s.tx.hdrPos.toNat < 13 then .cont { s with tx := { s.tx with burst := 0, fstate := .sendingHeaderBurst } }
  else .cont { s with tx := { s.tx with burst := 0, bpos := 0, escPending := false, fstate := .sendingBurst } }

/-- `floor(lat / tx_total)` of R213; a free value where `tx_total` is 0, which R213 derives never to happen (log 10). -/
def latencyPerByte (lat : W64) (total : W16) : W64 :=
  if total = 0 then Config.latencyOverZero lat else lat / total.setWidth 64

/-- `Account(p, e, now)` (R213). -/
def State.account (s : State) (p : Prio) (e : TxEntry) : State :=
  let x := s.txp p
  if x.lastSeq = sentinel ∨ x.lastSeq < e.seq then
    let lat := s.env.now - e.commitTime
    s.setTxp p { x with sent := x.sent + 1, latency := x.latency + lat,
                        latPerByte := x.latPerByte + latencyPerByte lat x.total,
                        reliable := if e.ack then x.reliable + 1 else x.reliable,
                        lastSeq := e.seq }
  else s.setTxp p { x with retx := x.retx + 1 }

/-- `Complete()` (R212): account unless the packet is `init` or `tx_accept` rejects it (R214), then pop. -/
def State.complete (s : State) (e : TxEntry) : State :=
  let p := s.tx.txCur
  if e.init = false ∧ accepts s.params.txAccept (s.txPacket p e) = true then (s.account p e).popTx p else s.popTx p

/-- `Preempt()` (R215). -/
def State.preempt (s : State) (e : TxEntry) : State :=
  let p := s.tx.txCur
  let x := s.txp p
  let a := min (x.brk.toNat + s.tx.bpos.toNat) (fullLen x e)
  (s.setTxp p { x with brk := BitVec.ofNat 16 a }).setHeadTx p
    { e with cont := true, len := BitVec.ofNat 16 (fullLen x e - a) }

/-- The size of a body write of which `remaining` wire bytes are left (R211). -/
def State.bodyChunk (s : State) (remaining : Nat) : Nat :=
  min (min (s.ctl.maxBurst.toNat - s.tx.burst.toNat) s.ctl.maxAtomic.toNat) remaining

/-- FR_SB (R211). -/
def opSb (s : State) : TickRes :=
  if s.ctl.maxBurst ≤ s.tx.burst then s.enterWait .waitingForBurstIngestion false
  else
    match s.headTx? s.tx.txCur with
    | none => .fault .noHead
    | some e =>
      let body := s.body s.tx.txCur e
      let out := wire s.params body s.tx.bpos s.tx.escPending
      let n := s.bodyChunk out.length
      let w := s.answer n
      let at' := advance s.params.startTok body w s.tx.bpos s.tx.escPending
      let t := s.offer (out.take n)
      let t := { t with tx := { s.tx with bpos := at'.1, escPending := at'.2, burst := s.tx.burst + BitVec.ofNat 32 w } }
      if t.tx.bpos.toNat = body.length ∧ t.tx.escPending = false then
        (t.complete e).enterWait .waitingForBurstIngestion true
      else if t.tx.escPending = false ∧ t.higherWaiting = true then
        (t.preempt e).enterWait .waitingForPartialBurstIngestion false
      else if t.ctl.maxBurst ≤ t.tx.burst then t.enterWait .waitingForBurstIngestion false
      else if w < n then .ret t .none
      else .cont t

/-- FR_WBI (R216). -/
def opWbi (s : State) : TickRes :=
  if s.waiting then .ret s s.waitLeft
  else if s.tx.fDone then .cont { s with tx := { s.tx with burst := 0, fDone := false, fstate := .gettingNextPacket } }
  else .cont { s with tx := { s.tx with burst := 0, fstate := .sendingBurst } }

/-- FR_WPBI (R217). -/
def opWpbi (s : State) : TickRes :=
  if s.waiting then .ret s s.waitLeft
  else .cont { s with tx := { s.tx with burst := 0, fstate := .gettingNextPacket } }

/-- FR_HALT (R218). -/
def opHalt (s : State) : TickRes := .ret s .none

/-- The operation of the current `fstate` (spec/30_encoding.md R115). -/
def opOf (s : State) : TickRes :=
  match s.tx.fstate with
  | .gettingNextPacket => opGnp s
  | .sendingHeaderBurst => opShb s
  | .waitingForHeaderBurstIngestion => opWhbi s
  | .sendingBurst => opSb s
  | .waitingForBurstIngestion => opWbi s
  | .waitingForPartialBurstIngestion => opWpbi s
  | .halted => opHalt s
  | .reserved7 => .fault .reservedFState

/-- The tick after an operation (R200): it goes on with the operation of the new `fstate` until one returns a hint, at most `k`
times. -/
def finishTick : Nat → TickRes → Host.Outcome State Fault Refusal
  | _, .ret s h => .next { s with env := { s.env with hint := h } }
  | _, .fault f => .fault f
  | 0, .cont _ => .fault .endlessTick
  | k + 1, .cont s => finishTick k (opOf s)

/-- How often a tick can go on: each write operation that goes on uses up an answer of the transport, and at most two operations
without a write come before the first (R225). -/
def State.tickBound (s : State) : Nat := s.env.answers.length + 4

/-- A tick that starts with FR_GNP (R206). -/
def execFrGnp (s : State) : Host.Outcome State Fault Refusal := finishTick s.tickBound (opGnp s)

/-- A tick that starts with FR_SHB (R208). -/
def execFrShb (s : State) : Host.Outcome State Fault Refusal := finishTick s.tickBound (opShb s)

/-- A tick that starts with FR_WHBI (R209). -/
def execFrWhbi (s : State) : Host.Outcome State Fault Refusal := finishTick s.tickBound (opWhbi s)

/-- A tick that starts with FR_SB (R211). -/
def execFrSb (s : State) : Host.Outcome State Fault Refusal := finishTick s.tickBound (opSb s)

/-- A tick that starts with FR_WBI (R216). -/
def execFrWbi (s : State) : Host.Outcome State Fault Refusal := finishTick s.tickBound (opWbi s)

/-- A tick that starts with FR_WPBI (R217). -/
def execFrWpbi (s : State) : Host.Outcome State Fault Refusal := finishTick s.tickBound (opWpbi s)

/-- A tick of a halted framer (R218). -/
def execFrHalt (s : State) : Host.Outcome State Fault Refusal := finishTick s.tickBound (opHalt s)

/-- FR_RESERVED (R219): no rule enters `fstate` 7; the model faults. -/
def execFrReserved (_s : State) : Host.Outcome State Fault Refusal := .fault .reservedFState

/-- FR_OFF (R220): a tick with CTRL.TX_EN = 0 returns `NONE` and changes nothing. -/
def execFrOff (_f : BitVec 3) (s : State) : Host.Outcome State Fault Refusal :=
  .next { s with env := { s.env with hint := .none } }

end Sys2Proof.Machine
end

