-- ==== Sys2Proof/Machine/HostRead.lean ====
section
/-! DEFINITION. The host's reads (spec/42_host_interface.md): each returns a value and has no side effect (spec/20_memory.md R80). -/

namespace Sys2Proof.Machine

/-- HR_PARAMS (R262). -/
def execHrParams (s : State) : Host.Outcome State Fault Refusal :=
  .next (s.readDone (paramsWord s.params))

/-- HR_CTRL (R263). -/
def execHrCtrl (s : State) : Host.Outcome State Fault Refusal :=
  .next (s.readDone (ctrlWord s.ctl))

/-- HR_STATUS (R270). -/
def execHrStatus (s : State) : Host.Outcome State Fault Refusal :=
  .next (s.readDone (statusWord s))

/-- HR_CFG_MAX_BURST (R274). -/
def execHrCfgMaxBurst (s : State) : Host.Outcome State Fault Refusal :=
  .next (s.readDone (s.ctl.maxBurst.setWidth 64))

/-- HR_CFG_MAX_ATOMIC (R274). -/
def execHrCfgMaxAtomic (s : State) : Host.Outcome State Fault Refusal :=
  .next (s.readDone (s.ctl.maxAtomic.setWidth 64))

/-- HR_CFG_NS_PER_BYTE (R274). -/
def execHrCfgNsPerByte (s : State) : Host.Outcome State Fault Refusal :=
  .next (s.readDone (s.ctl.nsPerByte.setWidth 64))

/-- HR_RX_DISCARD_COUNT (R274). -/
def execHrRxDiscardCount (s : State) : Host.Outcome State Fault Refusal :=
  .next (s.readDone s.rx.discardCount)

/-- HR_TX_WAIT_UNTIL (R274). -/
def execHrTxWaitUntil (s : State) : Host.Outcome State Fault Refusal :=
  .next (s.readDone s.tx.waitUntil)

/-- HR_DBG_RX (R274). -/
def execHrDbgRx (s : State) : Host.Outcome State Fault Refusal :=
  .next (s.readDone (dbgRxWord s.rx))

/-- HR_DBG_TX (R274). -/
def execHrDbgTx (s : State) : Host.Outcome State Fault Refusal :=
  .next (s.readDone (dbgTxWord s.tx))

/-- HR_TX_SEL (R275). -/
def execHrTxSel (s : State) : Host.Outcome State Fault Refusal :=
  .next (s.readDone (s.ctl.txSel.setWidth 64))

/-- HR_TX_SEQ (R276). -/
def execHrTxSeq (s : State) : Host.Outcome State Fault Refusal :=
  .next (s.readDone s.selTx.seq)

/-- HR_TX_LEN (R276). -/
def execHrTxLen (s : State) : Host.Outcome State Fault Refusal :=
  .next (s.readDone (s.selTx.len.setWidth 64))

/-- HR_TX_FLAGS (R276). -/
def execHrTxFlags (s : State) : Host.Outcome State Fault Refusal :=
  .next (s.readDone (txFlagsWord s.selTx))

/-- HR_TX_COMMIT (R261): a write-only register reads 0. -/
def execHrTxCommit (s : State) : Host.Outcome State Fault Refusal :=
  .next (s.readDone 0)

/-- HR_TX_COUNT (R279). -/
def execHrTxCount (s : State) : Host.Outcome State Fault Refusal :=
  .next (s.readDone (countWord (s.countTx s.ctl.txSel)))

/-- HR_RX_SEL (R280). -/
def execHrRxSel (s : State) : Host.Outcome State Fault Refusal :=
  .next (s.readDone (s.ctl.rxSel.setWidth 64))

/-- HR_RX_COUNT (R281). -/
def execHrRxCount (s : State) : Host.Outcome State Fault Refusal :=
  .next (s.readDone (countWord (s.countRx s.ctl.rxSel)))

/-- HR_RX_HEAD_SEQ (R281). -/
def execHrRxHeadSeq (s : State) : Host.Outcome State Fault Refusal :=
  .next (s.readDone (s.rxHeadField RxEntry.seq))

/-- HR_RX_HEAD_LEN (R281). -/
def execHrRxHeadLen (s : State) : Host.Outcome State Fault Refusal :=
  .next (s.readDone (s.rxHeadField (fun e => e.len.setWidth 64)))

/-- HR_RX_HEAD_FLAGS (R281). -/
def execHrRxHeadFlags (s : State) : Host.Outcome State Fault Refusal :=
  .next (s.readDone (s.rxHeadField rxFlagsWord))

/-- HR_RX_HEAD_CSUM (R281). -/
def execHrRxHeadCsum (s : State) : Host.Outcome State Fault Refusal :=
  .next (s.readDone (s.rxHeadField (fun e => e.csum.setWidth 64)))

/-- HR_RX_HEAD_TIME (R281). -/
def execHrRxHeadTime (s : State) : Host.Outcome State Fault Refusal :=
  .next (s.readDone (s.rxHeadField RxEntry.commitTime))

/-- HR_RX_CONSUME (R261): a write-only register reads 0. -/
def execHrRxConsume (s : State) : Host.Outcome State Fault Refusal :=
  .next (s.readDone 0)

/-- HR_STAT_SENT (R284). -/
def execHrStatSent (p : Prio) (s : State) : Host.Outcome State Fault Refusal :=
  .next (s.readDone ((s.txp p).sent))

/-- HR_STAT_RETX (R284). -/
def execHrStatRetx (p : Prio) (s : State) : Host.Outcome State Fault Refusal :=
  .next (s.readDone ((s.txp p).retx))

/-- HR_STAT_RELIABLE (R284). -/
def execHrStatReliable (p : Prio) (s : State) : Host.Outcome State Fault Refusal :=
  .next (s.readDone ((s.txp p).reliable))

/-- HR_STAT_LATENCY (R284). -/
def execHrStatLatency (p : Prio) (s : State) : Host.Outcome State Fault Refusal :=
  .next (s.readDone ((s.txp p).latency))

/-- HR_STAT_LAT_PER_BYTE (R284). -/
def execHrStatLatPerByte (p : Prio) (s : State) : Host.Outcome State Fault Refusal :=
  .next (s.readDone ((s.txp p).latPerByte))

/-- HR_LAST_SEQ (R284). -/
def execHrLastSeq (p : Prio) (s : State) : Host.Outcome State Fault Refusal :=
  .next (s.readDone ((s.txp p).lastSeq))

/-- HR_TX_TOTAL (R284). -/
def execHrTxTotal (p : Prio) (s : State) : Host.Outcome State Fault Refusal :=
  .next (s.readDone ((s.txp p).total.setWidth 64))

/-- HR_TX_BREAK (R284). -/
def execHrTxBreak (p : Prio) (s : State) : Host.Outcome State Fault Refusal :=
  .next (s.readDone ((s.txp p).brk.setWidth 64))

/-- HR_RX_ACTIVE (R284). -/
def execHrRxActive (p : Prio) (s : State) : Host.Outcome State Fault Refusal :=
  .next (s.readDone ((BitVec.ofBool (s.rxp p).active).setWidth 64))

/-- HR_RX_BREAK (R284). -/
def execHrRxBreak (p : Prio) (s : State) : Host.Outcome State Fault Refusal :=
  .next (s.readDone ((s.rxp p).brk.setWidth 64))

/-- HR_RX_SLOT_SEQ (R284). -/
def execHrRxSlotSeq (p : Prio) (s : State) : Host.Outcome State Fault Refusal :=
  .next (s.readDone ((s.rxp p).slot.seq))

/-- HR_RX_SLOT_LEN (R284). -/
def execHrRxSlotLen (p : Prio) (s : State) : Host.Outcome State Fault Refusal :=
  .next (s.readDone ((s.rxp p).slot.len.setWidth 64))

/-- HR_TX_CONTENT[i] (R277). -/
def execHrTxContent (i : BitVec 13) (s : State) : Host.Outcome State Fault Refusal :=
  .next (s.readDone ((s.contentByte .tx s.ctl.txSel s.selTx.content i.toNat).setWidth 64))

/-- HR_RX_CONTENT[i] (R282). -/
def execHrRxContent (i : BitVec 13) (s : State) : Host.Outcome State Fault Refusal :=
  .next (s.readDone (s.rxHeadField (rxContentWord i)))

end Sys2Proof.Machine
end

