-- ==== Sys2Proof/Machine/HostWrite.lean ====
section
/-! DEFINITION. The host's writes and the accesses to no register (spec/42_host_interface.md). A write returns 0 (R260). -/

namespace Sys2Proof.Machine

/-- An action bit of CTRL: do it if the bit is written 1. -/
def State.actIf (s : State) (b : Bool) (act : State → State) : State := if b then act s else s

/-- What a write of CTRL does, in the order of R264: the fields, then STATS_CLR, RX_FLUSH, RX_SRST, TX_FLUSH, TX_SRST. -/
def State.writeCtrl (s : State) (v : W64) : State :=
  let t := { s with ctl := { s.ctl with rxEn := v.getLsbD 0, txEn := v.getLsbD 1, lastStartResync := v.getLsbD 2 } }
  let t := t.actIf (v.getLsbD 12) State.statsClear
  let t := t.actIf (v.getLsbD 10) State.rxFlush
  let t := t.actIf (v.getLsbD 8) State.rxSoftReset
  let t := t.actIf (v.getLsbD 11) State.txFlush
  t.actIf (v.getLsbD 9) State.txSoftReset

/-- What a write of STATUS does (R271): BUS_ERR and HOST_ERR are cleared by writing 1. -/
def State.writeStatus (s : State) (v : W64) : State :=
  { s with ctl := { s.ctl with
      busErr := s.ctl.busErr && !v.getLsbD 9
      hostErr := s.ctl.hostErr && !v.getLsbD 10
      hostErrCause := if v.getLsbD 10 then 0 else s.ctl.hostErrCause } }

/-- What a write of TX_COMMIT does (R278): length before full FIFO (spec/60_exceptions.md R326). -/
def State.commitTx (s : State) : State :=
  if s.params.capacity < s.selTx.len.toNat then s.raise (.hostError 1)
  else if s.countTx s.ctl.txSel = s.params.qdepth then s.raise (.hostError 2)
  else s.pushTx s.ctl.txSel (txEntryOf s.selTx s.env.now)

/-- HW_PARAMS (R261): a read-only register, no effect. -/
def execHwParams (_v : W64) (s : State) : Host.Outcome State Fault Refusal :=
  .next s.writeDone

/-- HW_RX_DISCARD_COUNT (R261): a read-only register, no effect. -/
def execHwRxDiscardCount (_v : W64) (s : State) : Host.Outcome State Fault Refusal :=
  .next s.writeDone

/-- HW_TX_WAIT_UNTIL (R261): a read-only register, no effect. -/
def execHwTxWaitUntil (_v : W64) (s : State) : Host.Outcome State Fault Refusal :=
  .next s.writeDone

/-- HW_DBG_RX (R261): a read-only register, no effect. -/
def execHwDbgRx (_v : W64) (s : State) : Host.Outcome State Fault Refusal :=
  .next s.writeDone

/-- HW_DBG_TX (R261): a read-only register, no effect. -/
def execHwDbgTx (_v : W64) (s : State) : Host.Outcome State Fault Refusal :=
  .next s.writeDone

/-- HW_TX_COUNT (R261): a read-only register, no effect. -/
def execHwTxCount (_v : W64) (s : State) : Host.Outcome State Fault Refusal :=
  .next s.writeDone

/-- HW_RX_COUNT (R261): a read-only register, no effect. -/
def execHwRxCount (_v : W64) (s : State) : Host.Outcome State Fault Refusal :=
  .next s.writeDone

/-- HW_RX_HEAD_SEQ (R261): a read-only register, no effect. -/
def execHwRxHeadSeq (_v : W64) (s : State) : Host.Outcome State Fault Refusal :=
  .next s.writeDone

/-- HW_RX_HEAD_LEN (R261): a read-only register, no effect. -/
def execHwRxHeadLen (_v : W64) (s : State) : Host.Outcome State Fault Refusal :=
  .next s.writeDone

/-- HW_RX_HEAD_FLAGS (R261): a read-only register, no effect. -/
def execHwRxHeadFlags (_v : W64) (s : State) : Host.Outcome State Fault Refusal :=
  .next s.writeDone

/-- HW_RX_HEAD_CSUM (R261): a read-only register, no effect. -/
def execHwRxHeadCsum (_v : W64) (s : State) : Host.Outcome State Fault Refusal :=
  .next s.writeDone

/-- HW_RX_HEAD_TIME (R261): a read-only register, no effect. -/
def execHwRxHeadTime (_v : W64) (s : State) : Host.Outcome State Fault Refusal :=
  .next s.writeDone

/-- HW_PRIO_BLOCK (R261): read-only registers, no effect. -/
def execHwPrioBlock (_p : Prio) (_k : BitVec 4) (_v : W64) (s : State) : Host.Outcome State Fault Refusal :=
  .next s.writeDone

/-- HW_RX_CONTENT[i] (R261): a read-only register, no effect. -/
def execHwRxContent (_i : BitVec 13) (_v : W64) (s : State) : Host.Outcome State Fault Refusal :=
  .next s.writeDone

/-- HW_CTRL (R264). -/
def execHwCtrl (v : W64) (s : State) : Host.Outcome State Fault Refusal :=
  .next (s.writeCtrl v).writeDone

/-- HW_STATUS (R271). -/
def execHwStatus (v : W64) (s : State) : Host.Outcome State Fault Refusal :=
  .next (s.writeStatus v).writeDone

/-- HW_CFG_MAX_BURST (R272). -/
def execHwCfgMaxBurst (v : W64) (s : State) : Host.Outcome State Fault Refusal :=
  .next (State.writeDone { s with ctl := { s.ctl with maxBurst := warlNonzero v } })

/-- HW_CFG_MAX_ATOMIC (R272). -/
def execHwCfgMaxAtomic (v : W64) (s : State) : Host.Outcome State Fault Refusal :=
  .next (State.writeDone { s with ctl := { s.ctl with maxAtomic := warlNonzero v } })

/-- HW_CFG_NS_PER_BYTE (R273). -/
def execHwCfgNsPerByte (v : W64) (s : State) : Host.Outcome State Fault Refusal :=
  .next (State.writeDone { s with ctl := { s.ctl with nsPerByte := v.setWidth 32 } })

/-- HW_TX_SEL (R275). -/
def execHwTxSel (v : W64) (s : State) : Host.Outcome State Fault Refusal :=
  .next (State.writeDone { s with ctl := { s.ctl with txSel := warlPrio s.params s.ctl.txSel v } })

/-- HW_TX_SEQ (R276). -/
def execHwTxSeq (v : W64) (s : State) : Host.Outcome State Fault Refusal :=
  .next (s.setSelTx { s.selTx with seq := v }).writeDone

/-- HW_TX_LEN (R276): any 16-bit length is stored; the commit checks it. -/
def execHwTxLen (v : W64) (s : State) : Host.Outcome State Fault Refusal :=
  .next (s.setSelTx { s.selTx with len := v.setWidth 16 }).writeDone

/-- HW_TX_FLAGS (R276). -/
def execHwTxFlags (v : W64) (s : State) : Host.Outcome State Fault Refusal :=
  .next (s.setSelTx { s.selTx with cont := v.getLsbD 0, init := v.getLsbD 1, ack := v.getLsbD 2 }).writeDone

/-- HW_TX_CONTENT[i] (R277). -/
def execHwTxContent (i : BitVec 13) (v : W64) (s : State) : Host.Outcome State Fault Refusal :=
  .next (s.setSelTx { s.selTx with content := s.selTx.content.write i.toNat (v.setWidth 8) }).writeDone

/-- HW_TX_COMMIT (R278). -/
def execHwTxCommit (_v : W64) (s : State) : Host.Outcome State Fault Refusal :=
  .next s.commitTx.writeDone

/-- HW_RX_SEL (R280). -/
def execHwRxSel (v : W64) (s : State) : Host.Outcome State Fault Refusal :=
  .next (State.writeDone { s with ctl := { s.ctl with rxSel := warlPrio s.params s.ctl.rxSel v } })

/-- HW_RX_CONSUME (R283): an empty FIFO stays empty, with no error. -/
def execHwRxConsume (_v : W64) (s : State) : Host.Outcome State Fault Refusal :=
  .next (s.popRx s.ctl.rxSel).writeDone

/-- HB_ERR (R260): a misaligned or unmapped access sets STATUS.BUS_ERR, returns 0 and does nothing else. -/
def execHbErr (_we : Bool) (_a : Addr) (_v : W64) (s : State) : Host.Outcome State Fault Refusal :=
  .next ((s.raise .busError).readDone 0)

end Sys2Proof.Machine
end

