-- ==== Sys2Proof/Machine/Dispatch.lean ====
section
/-! DEFINITION. `exec`: one arm per operation, one meaning each. -/

namespace Sys2Proof.Machine

def exec (i : Instr) (s : State) : Host.Outcome State Fault Refusal :=
  match i with
  | .dfWfpStart => Sys2Proof.Machine.execDfWfpStart s
  | .dfWfpOther b => Sys2Proof.Machine.execDfWfpOther b s
  | .dfRhStart => Sys2Proof.Machine.execDfRhStart s
  | .dfRhEsc => Sys2Proof.Machine.execDfRhEsc s
  | .dfRhByte b => Sys2Proof.Machine.execDfRhByte b s
  | .dfRcStartLast => Sys2Proof.Machine.execDfRcStartLast s
  | .dfRcStart => Sys2Proof.Machine.execDfRcStart s
  | .dfRcByte b => Sys2Proof.Machine.execDfRcByte b s
  | .dfDstcEsc => Sys2Proof.Machine.execDfDstcEsc s
  | .dfDstcStart => Sys2Proof.Machine.execDfDstcStart s
  | .dfDstcOther b => Sys2Proof.Machine.execDfDstcOther b s
  | .dfRfStartLast => Sys2Proof.Machine.execDfRfStartLast s
  | .dfRfStart => Sys2Proof.Machine.execDfRfStart s
  | .dfRfByte b => Sys2Proof.Machine.execDfRfByte b s
  | .dfDstfEsc => Sys2Proof.Machine.execDfDstfEsc s
  | .dfDstfStart => Sys2Proof.Machine.execDfDstfStart s
  | .dfDstfOther b => Sys2Proof.Machine.execDfDstfOther b s
  | .dfReserved low b => Sys2Proof.Machine.execDfReserved low b s
  | .frGnp => Sys2Proof.Machine.execFrGnp s
  | .frShb => Sys2Proof.Machine.execFrShb s
  | .frWhbi => Sys2Proof.Machine.execFrWhbi s
  | .frSb => Sys2Proof.Machine.execFrSb s
  | .frWbi => Sys2Proof.Machine.execFrWbi s
  | .frWpbi => Sys2Proof.Machine.execFrWpbi s
  | .frHalt => Sys2Proof.Machine.execFrHalt s
  | .frReserved => Sys2Proof.Machine.execFrReserved s
  | .frOff f => Sys2Proof.Machine.execFrOff f s
  | .hrParams => Sys2Proof.Machine.execHrParams s
  | .hwParams v => Sys2Proof.Machine.execHwParams v s
  | .hrCtrl => Sys2Proof.Machine.execHrCtrl s
  | .hwCtrl v => Sys2Proof.Machine.execHwCtrl v s
  | .hrStatus => Sys2Proof.Machine.execHrStatus s
  | .hwStatus v => Sys2Proof.Machine.execHwStatus v s
  | .hrCfgMaxBurst => Sys2Proof.Machine.execHrCfgMaxBurst s
  | .hwCfgMaxBurst v => Sys2Proof.Machine.execHwCfgMaxBurst v s
  | .hrCfgMaxAtomic => Sys2Proof.Machine.execHrCfgMaxAtomic s
  | .hwCfgMaxAtomic v => Sys2Proof.Machine.execHwCfgMaxAtomic v s
  | .hrCfgNsPerByte => Sys2Proof.Machine.execHrCfgNsPerByte s
  | .hwCfgNsPerByte v => Sys2Proof.Machine.execHwCfgNsPerByte v s
  | .hrRxDiscardCount => Sys2Proof.Machine.execHrRxDiscardCount s
  | .hwRxDiscardCount v => Sys2Proof.Machine.execHwRxDiscardCount v s
  | .hrTxWaitUntil => Sys2Proof.Machine.execHrTxWaitUntil s
  | .hwTxWaitUntil v => Sys2Proof.Machine.execHwTxWaitUntil v s
  | .hrDbgRx => Sys2Proof.Machine.execHrDbgRx s
  | .hwDbgRx v => Sys2Proof.Machine.execHwDbgRx v s
  | .hrDbgTx => Sys2Proof.Machine.execHrDbgTx s
  | .hwDbgTx v => Sys2Proof.Machine.execHwDbgTx v s
  | .hrTxSel => Sys2Proof.Machine.execHrTxSel s
  | .hwTxSel v => Sys2Proof.Machine.execHwTxSel v s
  | .hrTxSeq => Sys2Proof.Machine.execHrTxSeq s
  | .hwTxSeq v => Sys2Proof.Machine.execHwTxSeq v s
  | .hrTxLen => Sys2Proof.Machine.execHrTxLen s
  | .hwTxLen v => Sys2Proof.Machine.execHwTxLen v s
  | .hrTxFlags => Sys2Proof.Machine.execHrTxFlags s
  | .hwTxFlags v => Sys2Proof.Machine.execHwTxFlags v s
  | .hrTxCommit => Sys2Proof.Machine.execHrTxCommit s
  | .hwTxCommit v => Sys2Proof.Machine.execHwTxCommit v s
  | .hrTxCount => Sys2Proof.Machine.execHrTxCount s
  | .hwTxCount v => Sys2Proof.Machine.execHwTxCount v s
  | .hrRxSel => Sys2Proof.Machine.execHrRxSel s
  | .hwRxSel v => Sys2Proof.Machine.execHwRxSel v s
  | .hrRxCount => Sys2Proof.Machine.execHrRxCount s
  | .hwRxCount v => Sys2Proof.Machine.execHwRxCount v s
  | .hrRxHeadSeq => Sys2Proof.Machine.execHrRxHeadSeq s
  | .hwRxHeadSeq v => Sys2Proof.Machine.execHwRxHeadSeq v s
  | .hrRxHeadLen => Sys2Proof.Machine.execHrRxHeadLen s
  | .hwRxHeadLen v => Sys2Proof.Machine.execHwRxHeadLen v s
  | .hrRxHeadFlags => Sys2Proof.Machine.execHrRxHeadFlags s
  | .hwRxHeadFlags v => Sys2Proof.Machine.execHwRxHeadFlags v s
  | .hrRxHeadCsum => Sys2Proof.Machine.execHrRxHeadCsum s
  | .hwRxHeadCsum v => Sys2Proof.Machine.execHwRxHeadCsum v s
  | .hrRxHeadTime => Sys2Proof.Machine.execHrRxHeadTime s
  | .hwRxHeadTime v => Sys2Proof.Machine.execHwRxHeadTime v s
  | .hrRxConsume => Sys2Proof.Machine.execHrRxConsume s
  | .hwRxConsume v => Sys2Proof.Machine.execHwRxConsume v s
  | .hrStatSent p => Sys2Proof.Machine.execHrStatSent p s
  | .hrStatRetx p => Sys2Proof.Machine.execHrStatRetx p s
  | .hrStatReliable p => Sys2Proof.Machine.execHrStatReliable p s
  | .hrStatLatency p => Sys2Proof.Machine.execHrStatLatency p s
  | .hrStatLatPerByte p => Sys2Proof.Machine.execHrStatLatPerByte p s
  | .hrLastSeq p => Sys2Proof.Machine.execHrLastSeq p s
  | .hrTxTotal p => Sys2Proof.Machine.execHrTxTotal p s
  | .hrTxBreak p => Sys2Proof.Machine.execHrTxBreak p s
  | .hrRxActive p => Sys2Proof.Machine.execHrRxActive p s
  | .hrRxBreak p => Sys2Proof.Machine.execHrRxBreak p s
  | .hrRxSlotSeq p => Sys2Proof.Machine.execHrRxSlotSeq p s
  | .hrRxSlotLen p => Sys2Proof.Machine.execHrRxSlotLen p s
  | .hwPrioBlock p k v => Sys2Proof.Machine.execHwPrioBlock p k v s
  | .hrTxContent n => Sys2Proof.Machine.execHrTxContent n s
  | .hwTxContent n v => Sys2Proof.Machine.execHwTxContent n v s
  | .hrRxContent n => Sys2Proof.Machine.execHrRxContent n s
  | .hwRxContent n v => Sys2Proof.Machine.execHwRxContent n v s
  | .hbErr we a v => Sys2Proof.Machine.execHbErr we a v s

end Sys2Proof.Machine
end

