-- ==== Sys2Proof/Machine/Step.lean ====
section
/-! DEFINITION. One step of the block: take the next input event and run the operation it selects, atomically
(spec/00_scope.md R9, spec/30_encoding.md R113). -/

namespace Sys2Proof.Machine

/-- One step. With no input pending the block stays as it is (log 4). -/
def step (s : State) : Host.Outcome State Fault Refusal :=
  match s.fetch with
  | .idle => .next s
  | .done t => .next t
  | .run i t => exec i t

/-- `s` with an operation word where the next step fetches it (log 7); bits that are no operation word change nothing. -/
def State.withFetchWord (s : State) (nbits w : Nat) : State :=
  match OpWord.ofBits nbits w with
  | .ok x => s.placeWord x
  | .error _ => s

end Sys2Proof.Machine
end

