-- ==== Sys2Proof/Safety.lean ====
section
/-! DEFINITION. What a sound state of the block is: the invariants the rules derive for their registers, stated so that a claim
can be made of every step and not only of runs from reset. -/

namespace Sys2Proof.Machine

/-- A slot's or entry's content: canonical, and within the content array (spec/20_memory.md R71). -/
def Memory.Sound (capacity : Nat) (m : Memory) : Prop := Memory.wf m = true ∧ ∀ c ∈ m, c.1 < capacity

/-- The bytes below offset `n` have been written. -/
def Memory.WrittenBelow (m : Memory) (n : Nat) : Prop := ∀ i, i < n → Memory.read? m i ≠ none

/-- The deframer is inside a frame's content or footer. -/
def DState.inBody (d : DState) : Prop :=
  d = .readingContent ∨ d = .disambiguateContent ∨ d = .readingFooter ∨ d = .disambiguateFooter

/-- The deframer's registers (spec/40_deframer.md R142, R144, R149, R150, R165, R173; spec/60_exceptions.md R321). -/
structure DeframerSound (s : State) : Prop where
  dstate  : s.rx.dstate ≠ .reserved6 ∧ s.rx.dstate ≠ .reserved7
  hdrCnt  : s.rx.hdrCnt.toNat < 13
  header  : s.rx.dstate = .readingHeader → 1 ≤ s.rx.hdrCnt.toNat ∧ s.rx.hdrBuf[0] = s.params.startTok
  rxCur   : s.rx.rxCur.toNat < s.params.nPrio
  ftrPos  : s.rx.ftrPos.toNat < 4
  active  : s.rx.dstate.inBody → (s.rxp s.rx.rxCur).active = true
  content : (s.rx.dstate = .readingContent ∨ s.rx.dstate = .disambiguateContent) →
              s.rx.curOff.toNat < (s.rxp s.rx.rxCur).slot.len.toNat
  footer  : (s.rx.dstate = .readingFooter ∨ s.rx.dstate = .disambiguateFooter) →
              s.rx.curOff = (s.rxp s.rx.rxCur).slot.len
  written : s.rx.dstate.inBody → (s.rxp s.rx.rxCur).slot.content.WrittenBelow s.rx.curOff.toNat
  cause   : s.rx.lastCause.toNat ≤ 8

/-- The receive side of one priority (R150: `rx_break ≤ len` while active; R152: `len ≤ CAPACITY`; R26: at most `QDEPTH` entries
of `content[0..len)`). -/
structure RxPrioSound (P : Params) (x : RxPrio) : Prop where
  len     : x.slot.len.toNat ≤ P.capacity
  brk     : x.active = true → x.brk.toNat ≤ x.slot.len.toNat
  written : x.active = true → x.slot.content.WrittenBelow x.brk.toNat
  content : x.slot.content.Sound P.capacity
  depth   : x.queue.length ≤ P.qdepth
  entries : ∀ e ∈ x.queue, e.content.length = e.len.toNat ∧ e.len.toNat ≤ P.capacity

/-- The framer is sending the head of `TxQ[tx_cur]`. -/
def Framer.sending (f : Framer) : Prop :=
  f.fstate = .sendingHeaderBurst ∨ f.fstate = .waitingForHeaderBurstIngestion ∨ f.fstate = .sendingBurst ∨
    (f.fstate = .waitingForBurstIngestion ∧ f.fDone = false)

/-- The framer is sending the body of the head of `TxQ[tx_cur]`. -/
def Framer.sendingBody (f : Framer) : Prop :=
  f.fstate = .sendingBurst ∨ (f.fstate = .waitingForBurstIngestion ∧ f.fDone = false)

/-- The framer's registers (spec/41_framer.md R204, R206 to R208, R211, R213, R219; spec/60_exceptions.md R324). -/
structure FramerSound (s : State) : Prop where
  fstate : s.tx.fstate ≠ .reserved7
  txCur  : s.tx.txCur.toNat < s.params.nPrio
  fatal  : s.ctl.fatal = true ↔ s.tx.fstate = .halted
  hdrPos : s.tx.hdrPos.toNat ≤ 13
  header : s.tx.fstate = .sendingHeaderBurst → s.tx.hdrPos.toNat < 13
  head   : s.tx.sending → ∃ e, s.headTx? s.tx.txCur = some e ∧ fullLen (s.txp s.tx.txCur) e ≤ s.params.capacity ∧
             17 ≤ (s.txp s.tx.txCur).total.toNat
  body   : s.tx.sendingBody → ∀ e, s.headTx? s.tx.txCur = some e →
             s.tx.bpos.toNat < (s.body s.tx.txCur e).length ∧
             (s.tx.escPending = true → (s.body s.tx.txCur e)[s.tx.bpos.toNat]? = some s.params.startTok)

/-- The transmit side of one priority (R34, R38, R206, R278). -/
structure TxPrioSound (P : Params) (x : TxPrio) : Prop where
  total   : x.total = 0 ∨ 17 ≤ x.total.toNat
  brk     : x.brk.toNat ≤ P.capacity
  content : x.slot.content.Sound P.capacity
  depth   : x.queue.length ≤ P.qdepth
  entries : ∀ e ∈ x.queue, e.len.toNat ≤ P.capacity ∧ e.content.Sound P.capacity

/-- The control registers (spec/10_state.md R43, R44, R49, R50). -/
structure ControlSound (s : State) : Prop where
  maxBurst  : s.ctl.maxBurst ≠ 0
  maxAtomic : s.ctl.maxAtomic ≠ 0
  txSel     : s.ctl.txSel.toNat < s.params.nPrio
  rxSel     : s.ctl.rxSel.toNat < s.params.nPrio
  hostErr   : s.ctl.hostErr = true ↔ s.ctl.hostErrCause ≠ 0
  cause     : s.ctl.hostErrCause.toNat ≤ 2

/-- A sound state: what the rules keep of every state the block reaches. -/
structure Sound (s : State) : Prop where
  params   : s.params.Legal
  deframer : DeframerSound s
  rxPrio   : ∀ p, RxPrioSound s.params (s.rxp p)
  framer   : FramerSound s
  txPrio   : ∀ p, TxPrioSound s.params (s.txp p)
  control  : ControlSound s

/-- A safe step: it neither faults nor refuses. -/
def SafeStep (s : State) : Prop := ∃ t, step s = .next t

end Sys2Proof.Machine
end

