-- ==== Sys2Proof/Certificates/Slice0/Obligations.lean ====
section
/-! DEFINITION. The statements for the provers. Each says what a rule of spec/ says an operation or the block does. An equation
`exec i s = .next …` names every item that changes, so it is the frame too. -/

open Sys2Proof Sys2Proof.Machine

namespace Sys2Proof.Claims

/-- In `s` the link byte `b` selects the deframer operation `i` (spec/30_encoding.md R113, R114). -/
def Selects (s : State) (b : Byte) (i : Instr) : Prop :=
  decode s.params s.decodeCtx (.dfb (dfbWord s.rx.dstate.code b)) = i

/-- In `s` a tick selects the operation `i` first (R113, R115). -/
def TickSelects (s : State) (i : Instr) : Prop := decode s.params s.decodeCtx (.frt s.tx.fstate.code) = i

/-- An operation ends in `t`. -/
def Gives (i : Instr) (s t : State) : Prop := exec i s = .next t

/-- A tick that starts with `i` in `s` continues with `j` in `t` (spec/41_framer.md R200), and completes. -/
def ContinuesWith (i : Instr) (s : State) (j : Instr) (t : State) : Prop := ∃ u, Gives i s u ∧ Gives j t u

/-- A word with the data bits of a host read, which are ignored (R112), set to 0. -/
def readDataCleared : OpWord → OpWord
  | .dfb w => .dfb w
  | .frt w => .frt w
  | .hbus x => .hbus (hbusWord (hbusWe x) (hbusAddr x) (if hbusWe x then hbusData x else 0))

/-- An offset of the host space that holds a register (spec/10_state.md R40, R51, R52, spec/20_memory.md R81). -/
def IsRegister (P : Params) (a : Nat) : Prop :=
  a % 8 = 0 ∧
    (a ≤ 0x048 ∨ (0x080 ≤ a ∧ a ≤ 0x0A8) ∨ (0x0C0 ≤ a ∧ a ≤ 0x0F8) ∨
     (∃ p k, p < P.nPrio ∧ k ≤ 0x58 ∧ a = 0x800 + 0x80 * p + k) ∨
     (∃ i, i < P.capacity ∧ a = 0x10000 + 8 * i) ∨ (∃ i, i < P.capacity ∧ a = 0x20000 + 8 * i))

/-- Every item of spec/10_state.md holds its reset value (R54); the bytes of slot content are UNSPECIFIED: none is written. -/
def AtReset (s : State) : Prop :=
  s.rx = { dstate := .waitingForPacket, hdrBuf := Vector.replicate 13 0, hdrCnt := 0, rxCur := 0, curOff := 0,
           ftrBuf := Vector.replicate 4 0, ftrPos := 0, discardCount := 0, lastCause := 0 } ∧
  s.tx = { fstate := .gettingNextPacket, txCur := 0, hdrPos := 0, bpos := 0, escPending := false, burst := 0,
           waitUntil := 0, fDone := false } ∧
  (∀ p, (s.rxp p).active = false ∧ (s.rxp p).brk = 0 ∧ (s.rxp p).queue = [] ∧ (s.rxp p).slot.seq = 0 ∧
    (s.rxp p).slot.len = 0 ∧ (s.rxp p).slot.init = false ∧ (s.rxp p).slot.ack = false ∧
    ∀ i, Memory.read? (s.rxp p).slot.content i = none) ∧
  (∀ p, (s.txp p).total = 0 ∧ (s.txp p).brk = 0 ∧ (s.txp p).lastSeq = 0xFFFFFFFFFFFFFFFF ∧ (s.txp p).sent = 0 ∧
    (s.txp p).retx = 0 ∧ (s.txp p).reliable = 0 ∧ (s.txp p).latency = 0 ∧ (s.txp p).latPerByte = 0 ∧
    (s.txp p).queue = [] ∧ (s.txp p).slot.seq = 0 ∧ (s.txp p).slot.len = 0 ∧ (s.txp p).slot.cont = false ∧
    (s.txp p).slot.init = false ∧ (s.txp p).slot.ack = false ∧ ∀ i, Memory.read? (s.txp p).slot.content i = none) ∧
  s.ctl = { rxEn := false, txEn := false, lastStartResync := true, maxBurst := 1, maxAtomic := 1, nsPerByte := 0,
            fatal := false, busErr := false, hostErr := false, hostErrCause := 0, txSel := 0, rxSel := 0 } ∧
  ctrlWord s.ctl = 0x4 ∧ statusWord s = 0

/-- `s` after the record of a discard (spec/60_exceptions.md R322), back in `WaitingForPacket`. -/
def discarded (s : State) (cause : Byte) : State :=
  { s with rx := { s.rx with lastCause := cause, discardCount := s.rx.discardCount + 1, dstate := .waitingForPacket } }

/-- `Interrupt` (spec/40_deframer.md R143): the offset reached is kept, and a header begins with the bytes given. -/
def interrupted (s : State) (buf : Vector Byte 13) (cnt : BitVec 4) : State :=
  { s.setRxp s.rx.rxCur { s.rxp s.rx.rxCur with brk := s.rx.curOff } with
    rx := { s.rx with hdrBuf := buf, hdrCnt := cnt, dstate := .readingHeader } }

/-- `StoreContent(c)` (R144): the byte goes to offset `cur_off` of the slot, every other offset keeps its byte. -/
def StoresContent (s : State) (c : Byte) (i : Instr) : Prop :=
  let x := s.rxp s.rx.rxCur
  ∃ m : Memory, Memory.read? m s.rx.curOff.toNat = some c ∧
    (∀ j, j ≠ s.rx.curOff.toNat → Memory.read? m j = Memory.read? x.slot.content j) ∧
    Gives i s { s.setRxp s.rx.rxCur { x with slot := { x.slot with content := m } } with
      rx := { s.rx with
        curOff := s.rx.curOff + 1
        ftrPos := if s.rx.curOff + 1 = x.slot.len then 0 else s.rx.ftrPos
        dstate := if s.rx.curOff + 1 = x.slot.len then .readingFooter else .readingContent } }

/-- A footer byte that does not complete the footer (R165). -/
def StoresFooter (s : State) (c : Byte) (i : Instr) : Prop :=
  Gives i s { s with rx := { s.rx with
    ftrBuf := s.rx.ftrBuf.setIfInBounds s.rx.ftrPos.toNat c, ftrPos := s.rx.ftrPos + 1, dstate := .readingFooter } }

/-- The fourth footer byte (R165 to R169): four outcomes, tested in this order. That the three discards clear `rx_active` too is
log 16 (DEDUCED): R165 and R167 to R169 say so, a parenthesis of spec/60_exceptions.md R322 says otherwise. -/
def CompletesFooter (s : State) (c : Byte) (i : Instr) : Prop :=
  let p := s.rx.rxCur
  let x := s.rxp p
  let buf := s.rx.ftrBuf.setIfInBounds 3 c
  let recv : W32 := BitVec.ofNat 32 (beVal buf.toList)
  let content := s.contentBytes .rx p x.slot.content 0 x.slot.len.toNat
  let good := recv = packetSum s.params p x.slot.seq x.slot.len x.slot.init x.slot.ack content
  let wanted := accepts s.params.rxAccept
    { prio := p, seq := x.slot.seq, len := x.slot.len, cont := false, init := x.slot.init, ack := x.slot.ack,
      csum := recv, content := content } = true
  let done (q : List RxEntry) : State :=
    { s.setRxp p { x with active := false, queue := q } with
      rx := { s.rx with ftrBuf := buf, ftrPos := 0, dstate := .waitingForPacket } }
  (¬ good → Gives i s (discarded (done x.queue) 5)) ∧
  (good → ¬ wanted → Gives i s (discarded (done x.queue) 6)) ∧
  (good → wanted → x.queue.length = s.params.qdepth → Gives i s (discarded (done x.queue) 7)) ∧
  (good → wanted → x.queue.length ≠ s.params.qdepth →
    Gives i s (done (x.queue ++ [{ seq := x.slot.seq, len := x.slot.len, init := x.slot.init, ack := x.slot.ack,
                                   csum := recv, commitTime := s.env.now, content := content }])))

/-- `Select()` (spec/41_framer.md R202): `p` is the lowest-numbered priority whose TX FIFO holds a packet; `e` is its head. -/
def Selected (s : State) (p : Prio) (e : TxEntry) (rest : List TxEntry) : Prop :=
  p.toNat < s.params.nPrio ∧ (s.txp p).queue = e :: rest ∧ ∀ q : Prio, q.toNat < p.toNat → (s.txp q).queue = []

/-- The caps a host can store (spec/10_state.md R43). -/
def CapsLegal (s : State) : Prop := s.ctl.maxBurst ≠ 0 ∧ s.ctl.maxAtomic ≠ 0

/-- `EnterWait` (spec/41_framer.md R210) as the end of a tick. -/
def waiting (s : State) (next : FState) (final : Bool) : State :=
  let d : W64 := BitVec.ofNat 64 (s.tx.burst.toNat * s.ctl.nsPerByte.toNat)
  { s with tx := { s.tx with waitUntil := s.env.now + d, fDone := final, fstate := next }
           env := { s.env with hint := .wait d } }

/-- A frame is begun for `p` (R206). -/
def begun (s : State) (p : Prio) : State :=
  { s with tx := { s.tx with txCur := p, hdrPos := 0, bpos := 0, escPending := false, burst := 0, fDone := false,
                             fstate := .sendingHeaderBurst } }

/-- A tick that ends with the hint `NONE`. -/
def silent (s : State) : State := { s with env := { s.env with hint := .none } }

/-- The transport's next answer to a request of `n` bytes (R205, log 6). -/
def answerTo (s : State) (n : Nat) : Nat := min (s.env.answers.headD 0) n

/-- `w` of the bytes `bs` have left on link out, and the answer is used up. -/
def sent (s : State) (bs : List Byte) (w : Nat) (tx : Framer) : State :=
  { s with tx := tx, env := { s.env with answers := s.env.answers.tail, linkOut := s.env.linkOut ++ bs.take w } }

/-- The size of the next body write (R211). -/
def bodySize (s : State) (e : TxEntry) : Nat :=
  min (min (s.ctl.maxBurst.toNat - s.tx.burst.toNat) s.ctl.maxAtomic.toNat)
    (wire s.params (s.body s.tx.txCur e) s.tx.bpos s.tx.escPending).length

/-- The state after the next body write is answered and `Advance` has run (R204, R211). -/
def bodyWritten (s : State) (e : TxEntry) : State :=
  let body := s.body s.tx.txCur e
  let w := answerTo s (bodySize s e)
  let r := advance s.params.startTok body w s.tx.bpos s.tx.escPending
  sent s (wire s.params body s.tx.bpos s.tx.escPending) w
    { s.tx with bpos := r.1, escPending := r.2, burst := s.tx.burst + BitVec.ofNat 32 w }

/-- The write completed the frame (R211). -/
def BodyDone (s : State) (e : TxEntry) : Prop :=
  (bodyWritten s e).tx.bpos.toNat = e.len.toNat + 4 ∧ (bodyWritten s e).tx.escPending = false

/-- A strictly higher priority holds a packet and the write did not end inside a stuffed pair (R211). -/
def MustPreempt (s : State) (e : TxEntry) : Prop :=
  (bodyWritten s e).tx.escPending = false ∧
    ∃ q : Prio, q.toNat < s.params.nPrio ∧ q.toNat < s.tx.txCur.toNat ∧ (s.txp q).queue ≠ []

/-- Where the framer stands in the body of the head entry (spec/10_state.md R32). -/
def BodyPosition (s : State) (e : TxEntry) : Prop :=
  s.tx.bpos.toNat ≤ (s.body s.tx.txCur e).length ∧
    (s.tx.escPending = true → (s.body s.tx.txCur e)[s.tx.bpos.toNat]? = some s.params.startTok)

/-- A host access ends with the value `v` returned and nothing else changed. -/
def Returns (i : Instr) (s : State) (v : W64) : Prop := Gives i s { s with env := { s.env with readData := v } }

/-- A host write ends with `t` and returns 0 (spec/42_host_interface.md R260). -/
def Writes (i : Instr) (s t : State) : Prop := Gives i s { t with env := { t.env with readData := 0 } }

/-- The head of `RxQ[rx_sel]` reads `f` of it, 0 where the FIFO is empty (spec/10_state.md R50). -/
def HeadReads (i : Instr) (s : State) (f : RxEntry → W64) : Prop :=
  ((s.rxp s.ctl.rxSel).queue = [] → Returns i s 0) ∧
  ∀ e rest, (s.rxp s.ctl.rxSel).queue = e :: rest → Returns i s (f e)

/-- A selector write (R49): the value is stored if it is below `N_PRIO`, else nothing is. -/
def newSelector (P : Params) (old : Prio) (v : W64) : Prio := if v.toNat < P.nPrio then BitVec.ofNat 4 v.toNat else old

/-- The link delivers bytes, one deframer step each, all at clock `now` (spec/30_encoding.md R120). -/
def feed (now : W64) : List Byte → State → Host.Outcome State Fault Refusal
  | [], s => .next s
  | b :: bs, s =>
    match step { s with env := { s.env with pending := [.link b now] } } with
    | .next t => feed now bs t
    | .fault f => .fault f
    | .refused r => .refused r

end Sys2Proof.Claims

open Sys2Proof.Claims

/-! ### Encoding and stepping -/

/-- R111, R112, R114 to R116: words written out from the formats select the operations they stand for. -/
def Obligations.SampleWordsDecode : Prop :=
  decodeTableWord 16 0b00001111110 = some .dfWfpStart ∧ decodeTableWord 16 0b00101111101 = some .dfRhEsc ∧
  decodeTableWord 16 0b01000010001 = some (.dfRcByte 0x11) ∧ decodeTableWord 16 0b01101111110 = some .dfDstcStart ∧
  decodeTableWord 16 0b10101111101 = some .dfDstfEsc ∧ decodeTableWord 8 0b011 = some .frSb ∧
  decodeTableWord 88 (2 ^ 82 + 0x008 * 2 ^ 64 + 3) = some (.hwCtrl 3) ∧
  decodeTableWord 88 (0x010 * 2 ^ 64) = some .hrStatus ∧ decodeTableWord 88 (0x8A8 * 2 ^ 64) = some (.hrLastSeq 1) ∧
  decodeTableWord 88 (0x20010 * 2 ^ 64) = some (.hrRxContent 2) ∧
  decodeTableWord 88 (2 ^ 82 + 0x10008 * 2 ^ 64 + 0x7E) = some (.hwTxContent 1 0x7E) ∧
  decodeTableWord 88 (0x004 * 2 ^ 64) = some (.hbErr false 0x004 0)

/-- Decode and encode agree: the word of a well-formed operation selects it, in every context that can. -/
def Obligations.DecodeOfEncode : Prop :=
  ∀ (P : Params) (c : DecodeCtx) (i : Instr), P.Legal → wellFormed P i = true → selectedIn c i = true →
    decode P c (encode P i) = i

/-- Decoding is total (R113): every word selects an operation that is well formed and selected in its context. -/
def Obligations.EveryWordSelectsOneOperation : Prop :=
  ∀ (P : Params) (c : DecodeCtx) (w : OpWord), P.Legal →
    wellFormed P (decode P c w) = true ∧ selectedIn c (decode P c w) = true

/-- No bit of a word is dropped, but the data bits of a host read, which are ignored (R112). -/
def Obligations.EncodeOfDecode : Prop :=
  ∀ (P : Params) (c : DecodeCtx) (w : OpWord), P.Legal →
    encode P (decode P c w) = readDataCleared w

/-- R260, R81: a host access is HB_ERR exactly where its offset is misaligned or holds no register. -/
def Obligations.UnmappedOffsetsSelectError : Prop :=
  ∀ (P : Params) (c : DecodeCtx) (we : Bool) (a : Addr) (v : W64), P.Legal →
    (decode P c (.hbus (hbusWord we a v)) = .hbErr we a (if we then v else 0) ↔ ¬ IsRegister P a.toNat)

/-- A step runs the operation that its event's word selects. `step` adds around `exec`: the event leaves the queue of inputs,
its clock and answers become the step's, and a byte offered on link in is marked taken. -/
def Obligations.StepRunsDecodedOperation : Prop :=
  (∀ (s : State) (b : Byte) (now : W64) (rest : List Event) (i : Instr),
    s.env.pending = .link b now :: rest → s.ctl.rxEn = true → Selects s b i →
    step s = exec i { s with env := { s.env with pending := rest, now := now, answers := [], rxTaken := true } }) ∧
  (∀ (s : State) (now : W64) (ws : List Nat) (rest : List Event) (i : Instr),
    s.env.pending = .tick now ws :: rest → TickSelects s i →
    step s = exec i { s with env := { s.env with pending := rest, now := now, answers := ws } }) ∧
  (∀ (s : State) (we : Bool) (a : Addr) (v now : W64) (rest : List Event) (i : Instr),
    s.env.pending = .host we a v now :: rest → decode s.params s.decodeCtx (.hbus (hbusWord we a v)) = i →
    step s = exec i { s with env := { s.env with pending := rest, now := now, answers := [] } })

/-- The model's choice (log 7): a table word placed by `withFetchWord` is what the next step runs, on the state it was placed in
but for the engine state and enable that the word needs. -/
def Obligations.PlacedWordRunsNext : Prop :=
  ∀ (s : State) (nbits w : Nat) (i : Instr), s.params = .default → decodeTableWord nbits w = some i →
    ∃ t : State, step (s.withFetchWord nbits w) = exec i t ∧ t.env.pending = s.env.pending ∧ t.env.now = s.env.now ∧
      t.env.linkOut = s.env.linkOut ∧ t.rxPrio = s.rxPrio ∧ (t.txPrio = s.txPrio ∨ s.countTx s.tx.txCur = 0)

/-- R141 and the model's choices (log 4, log 5): a byte offered while RX_EN = 0 is not taken and changes no state of the block;
with no event pending a step changes nothing. -/
def Obligations.NoOperationWithoutInput : Prop :=
  (∀ (s : State) (b : Byte) (now : W64) (rest : List Event), s.env.pending = .link b now :: rest → s.ctl.rxEn = false →
    step s = .next { s with env := { s.env with pending := rest, now := now, answers := [], rxTaken := false } }) ∧
  (∀ s : State, s.env.pending = [] → step s = .next s)

/-- R54: every item of spec/10_state.md at its reset value. -/
def Obligations.ResetValues : Prop := AtReset State.reset

/-- R360: a hard reset sets every item to its reset value and keeps the parameters; the environment's inputs and outputs are its
own (log 12). -/
def Obligations.HardResetEvent : Prop :=
  ∀ (s : State) (rest : List Event), s.env.pending = .hardReset :: rest →
    ∃ t : State, step s = .next t ∧ AtReset t ∧ t.params = s.params ∧
      t.env = { s.env with pending := rest, epoch := s.env.epoch + 1 }

/-! ### The wire format -/

/-- R13, R76: `BE_k` puts the most significant byte first, and `beval` reads it back. -/
def Obligations.NetworkByteOrder : Prop :=
  (∀ k v, beBytes (k + 1) v = BitVec.ofNat 8 (v / 256 ^ k) :: beBytes k v) ∧
  (∀ k v, v < 256 ^ k → beVal (beBytes k v) = v) ∧ (∀ xs : List Byte, beBytes xs.length (beVal xs) = xs)

/-- R100 to R102: the fields assembled from the 13 bytes of a header are the fields it was built from. -/
def Obligations.HeaderFieldsReadBack : Prop :=
  ∀ (S : Byte) (p : Prio) (seq : W64) (len : W16) (cont init ack : Bool),
    ∃ h : Vector Byte 13, h.toList = headerBytes S p seq len cont init ack ∧
      (hdrPrioByte h).toNat = p.toNat ∧ hdrSeq h = seq ∧ hdrLength h = len ∧ flagCont (hdrFlags h) = cont ∧
      flagInit (hdrFlags h) = init ∧ flagAck (hdrFlags h) = ack ∧ (hdrFlags h).toNat < 8

/-- R119: a complete fresh frame occupies `13 + L + 4 + s` wire bytes, `s` the start tokens in content and footer. -/
def Obligations.FrameLength : Prop :=
  ∀ (S E : Byte) (p : Prio) (seq : W64) (init ack : Bool) (content : List Byte) (csum : W32),
    (canonHdr S p seq (BitVec.ofNat 16 content.length) init ack ++ stuff S E (content ++ footerBytes csum)).length =
      13 + content.length + 4 + (content ++ footerBytes csum).count S

/-- R108: stuffing works byte by byte, and two different byte lists never stuff to the same wire bytes. -/
def Obligations.StuffingIsInjective : Prop :=
  ∀ (S E : Byte) (xs ys : List Byte),
    stuff S E (xs ++ ys) = stuff S E xs ++ stuff S E ys ∧ (stuff S E xs = stuff S E ys → xs = ys)

/-! ### Deframer operations -/

/-- R145, R146. -/
def Obligations.WaitingForPacketBytes : Prop :=
  (∀ s : State, s.rx.dstate = .waitingForPacket →
    Selects s s.params.startTok .dfWfpStart ∧ ∀ b, b ≠ s.params.startTok → Selects s b (.dfWfpOther b)) ∧
  (∀ s : State, Gives .dfWfpStart s { s with rx := { s.rx with
    hdrBuf := s.rx.hdrBuf.setIfInBounds 0 s.params.startTok, hdrCnt := 1, dstate := .readingHeader } }) ∧
  (∀ (s : State) (b : Byte), Gives (.dfWfpOther b) s s)

/-- R147, R148. -/
def Obligations.TokensInHeader : Prop :=
  (∀ s : State, s.params.Legal → s.rx.dstate = .readingHeader →
    Selects s s.params.startTok .dfRhStart ∧ Selects s s.params.escTok .dfRhEsc) ∧
  (∀ s : State, Gives .dfRhStart s { s with rx := { s.rx with
    lastCause := 0x08, discardCount := s.rx.discardCount + 1,
    hdrBuf := s.rx.hdrBuf.setIfInBounds 0 s.params.startTok, hdrCnt := 1, dstate := .readingHeader } }) ∧
  (∀ s : State, Gives .dfRhEsc s { s with rx := { s.rx with
    lastCause := 0x01, discardCount := s.rx.discardCount + 1, hdrCnt := 0, dstate := .waitingForPacket } })

/-- R149: a header byte before the last is stored at `hdr_cnt`. -/
def Obligations.HeaderByteStored : Prop :=
  (∀ (s : State) (b : Byte), s.rx.dstate = .readingHeader → b ≠ s.params.startTok → b ≠ s.params.escTok →
    Selects s b (.dfRhByte b)) ∧
  (∀ (s : State) (b : Byte), s.rx.hdrCnt.toNat < 12 → Gives (.dfRhByte b) s { s with rx := { s.rx with
    hdrBuf := s.rx.hdrBuf.setIfInBounds s.rx.hdrCnt.toNat b, hdrCnt := s.rx.hdrCnt + 1 } })

/-- R150 to R155: the five outcomes of a completed header. -/
def Obligations.CompletedHeader : Prop :=
  ∀ (s : State) (b : Byte), s.rx.hdrCnt = 12 →
    let h := s.rx.hdrBuf.setIfInBounds 12 b
    let p : Prio := BitVec.ofNat 4 (hdrPrioByte h).toNat
    let len := hdrLength h
    let x := s.rxp p
    let t : State := { s with rx := { s.rx with hdrBuf := h, hdrCnt := 0 } }
    let legal := (hdrPrioByte h).toNat < s.params.nPrio
    let fresh := flagCont (hdrFlags h) = false
    let matching := x.active = true ∧ hdrSeq h = x.slot.seq ∧ len = x.slot.len - x.brk
    (¬ legal → Gives (.dfRhByte b) s (discarded t 2)) ∧
    (legal → fresh → s.params.capacity < len.toNat → Gives (.dfRhByte b) s (discarded t 3)) ∧
    (legal → fresh → len.toNat ≤ s.params.capacity → Gives (.dfRhByte b) s
      { t.setRxp p { x with active := true, brk := 0, slot := { x.slot with
          seq := hdrSeq h, len := len, init := flagInit (hdrFlags h), ack := flagAck (hdrFlags h) } } with
        rx := { t.rx with rxCur := p, curOff := 0, ftrPos := 0,
                          dstate := if len = 0 then .readingFooter else .readingContent } }) ∧
    (legal → ¬ fresh → matching → Gives (.dfRhByte b) s
      { t with rx := { t.rx with rxCur := p, curOff := x.brk, ftrPos := 0,
                                 dstate := if x.brk = x.slot.len then .readingFooter else .readingContent } }) ∧
    (legal → ¬ fresh → ¬ matching → Gives (.dfRhByte b) s (discarded t 4))

/-- R156, R162: a start token that may be data is not stored yet. -/
def Obligations.StartTokenHeld : Prop :=
  (∀ s : State, s.rx.dstate = .readingContent →
    ¬ (s.ctl.lastStartResync = true ∧ s.rx.curOff + 1 = (s.rxp s.rx.rxCur).slot.len) →
    Selects s s.params.startTok .dfRcStart) ∧
  (∀ s : State, s.rx.dstate = .readingFooter → ¬ (s.ctl.lastStartResync = true ∧ s.rx.ftrPos + 1 = 4) →
    Selects s s.params.startTok .dfRfStart) ∧
  (∀ s : State, Gives .dfRcStart s { s with rx := { s.rx with dstate := .disambiguateContent } }) ∧
  (∀ s : State, Gives .dfRfStart s { s with rx := { s.rx with dstate := .disambiguateFooter } })

/-- R143, R157, R160, R161, R163, R171, R172: every interruption of content or footer keeps the offset reached. -/
def Obligations.InterruptionKeepsOffset : Prop :=
  (∀ s : State, s.params.Legal →
    (s.rx.dstate = .readingContent → s.ctl.lastStartResync = true → s.rx.curOff + 1 = (s.rxp s.rx.rxCur).slot.len →
      Selects s s.params.startTok .dfRcStartLast) ∧
    (s.rx.dstate = .readingFooter → s.ctl.lastStartResync = true → s.rx.ftrPos + 1 = 4 →
      Selects s s.params.startTok .dfRfStartLast) ∧
    (s.rx.dstate = .disambiguateContent → Selects s s.params.startTok .dfDstcStart ∧
      ∀ b, b ≠ s.params.startTok → b ≠ s.params.escTok → Selects s b (.dfDstcOther b)) ∧
    (s.rx.dstate = .disambiguateFooter → Selects s s.params.startTok .dfDstfStart ∧
      ∀ b, b ≠ s.params.startTok → b ≠ s.params.escTok → Selects s b (.dfDstfOther b))) ∧
  (∀ (s : State) (i : Instr), (i = .dfRcStartLast ∨ i = .dfRfStartLast ∨ i = .dfDstcStart ∨ i = .dfDstfStart) →
    Gives i s (interrupted s (s.rx.hdrBuf.setIfInBounds 0 s.params.startTok) 1)) ∧
  (∀ (s : State) (b : Byte) (i : Instr), (i = .dfDstcOther b ∨ i = .dfDstfOther b) →
    Gives i s (interrupted s ((s.rx.hdrBuf.setIfInBounds 0 s.params.startTok).setIfInBounds 1 b) 2))

/-- R144, R158, R159: a content byte, or the start token that an escape token marks as data, is stored at `cur_off`. -/
def Obligations.ContentByteStored : Prop :=
  (∀ (s : State) (b : Byte), s.rx.dstate = .readingContent → b ≠ s.params.startTok → Selects s b (.dfRcByte b)) ∧
  (∀ s : State, s.rx.dstate = .disambiguateContent → Selects s s.params.escTok .dfDstcEsc) ∧
  (∀ (s : State) (b : Byte), s.rx.curOff.toNat < s.params.capacity →
    StoresContent s b (.dfRcByte b) ∧ StoresContent s s.params.startTok .dfDstcEsc)

/-- R164, R165, R170: a footer byte before the fourth. -/
def Obligations.FooterByteStored : Prop :=
  (∀ (s : State) (b : Byte), s.rx.dstate = .readingFooter → b ≠ s.params.startTok → Selects s b (.dfRfByte b)) ∧
  (∀ s : State, s.rx.dstate = .disambiguateFooter → Selects s s.params.escTok .dfDstfEsc) ∧
  (∀ (s : State) (b : Byte), s.rx.ftrPos.toNat < 3 →
    StoresFooter s b (.dfRfByte b) ∧ StoresFooter s s.params.startTok .dfDstfEsc)

/-- R165 to R169: the four outcomes of a completed footer. The clauses of the three discards clear `rx_active` by the model's
reading of log 16 (DEDUCED): R165 and R167 to R169 against the parenthesis of spec/60_exceptions.md R322. -/
def Obligations.CompletedFooter : Prop :=
  ∀ (s : State) (b : Byte), s.rx.ftrPos = 3 →
    CompletesFooter s b (.dfRfByte b) ∧ CompletesFooter s s.params.startTok .dfDstfEsc

/-- R173, R219: the reserved engine states select operations that fault, and no step enters them. -/
def Obligations.ReservedStatesFault : Prop :=
  (∀ (s : State) (b : Byte),
    (s.rx.dstate = .reserved6 → Selects s b (.dfReserved 0 b)) ∧ (s.rx.dstate = .reserved7 → Selects s b (.dfReserved 1 b))) ∧
  (∀ s : State, s.ctl.txEn = true → s.tx.fstate = .reserved7 → TickSelects s .frReserved) ∧
  (∀ (s : State) (low : BitVec 1) (b : Byte), exec (.dfReserved low b) s = .fault .reservedDState) ∧
  (∀ s : State, exec .frReserved s = .fault .reservedFState) ∧
  (∀ s t : State, step s = .next t →
    (t.rx.dstate = .reserved6 → s.rx.dstate = .reserved6) ∧ (t.rx.dstate = .reserved7 → s.rx.dstate = .reserved7) ∧
    (t.tx.fstate = .reserved7 → s.tx.fstate = .reserved7))

/-! ### Framer operations -/

/-- R220: a tick with TX_EN = 0. -/
def Obligations.DisabledTick : Prop :=
  (∀ s : State, s.ctl.txEn = false → TickSelects s (.frOff s.tx.fstate.code)) ∧
  (∀ (s : State) (f : BitVec 3), Gives (.frOff f) s (silent s))

/-- R218: a tick of a halted framer. -/
def Obligations.HaltedTick : Prop :=
  (∀ s : State, s.ctl.txEn = true → s.tx.fstate = .halted → TickSelects s .frHalt) ∧
  (∀ s : State, Gives .frHalt s (silent s))

/-- R202: the selection takes the lowest-numbered priority with a packet, and none exactly when every FIFO is empty. -/
def Obligations.HighestPrioritySelected : Prop :=
  ∀ s : State,
    (∀ p : Prio, s.select? = some p ↔
      p.toNat < s.params.nPrio ∧ 0 < s.countTx p ∧ ∀ q : Prio, q.toNat < p.toNat → s.countTx q = 0) ∧
    (s.select? = none ↔ ∀ q : Prio, q.toNat < s.params.nPrio → s.countTx q = 0)

/-- R206: with every TX FIFO empty a tick returns `NONE` and changes nothing. -/
def Obligations.IdleTick : Prop :=
  (∀ s : State, s.ctl.txEn = true → s.tx.fstate = .gettingNextPacket → TickSelects s .frGnp) ∧
  (∀ s : State, (∀ q : Prio, q.toNat < s.params.nPrio → (s.txp q).queue = []) → Gives .frGnp s (silent s))

/-- R207, R324: a continuation with nothing recorded, or past `CAPACITY`, halts the framer; the entry stays. The sum
`tx_break + len` is exact: log 14 (DEDUCED). -/
def Obligations.FatalSelection : Prop :=
  ∀ (s : State) (p : Prio) (e : TxEntry) (rest : List TxEntry), Selected s p e rest → e.cont = true →
    ((s.txp p).total = 0 ∨ s.params.capacity < (s.txp p).brk.toNat + e.len.toNat) →
    Gives .frGnp s (silent { s with tx := { s.tx with fstate := .halted }, ctl := { s.ctl with fatal := true } })

/-- R206: the selection of a fresh packet and of a continuation; the tick goes on with the header. The sum `tx_break + len` is
exact: log 14 (DEDUCED). -/
def Obligations.SelectionBeginsFrame : Prop :=
  ∀ (s : State) (p : Prio) (e : TxEntry) (rest : List TxEntry), CapsLegal s → Selected s p e rest →
    (e.cont = false →
      ContinuesWith .frGnp s .frShb (begun (s.setTxp p { s.txp p with
        total := BitVec.ofNat 16 (13 + e.len.toNat + 4), brk := 0,
        queue := { e with csum := packetSum s.params p e.seq e.len e.init e.ack
                                    (s.contentBytes .tx p e.content 0 e.len.toNat) } :: rest }) p)) ∧
    (e.cont = true → (s.txp p).total ≠ 0 → (s.txp p).brk.toNat + e.len.toNat ≤ s.params.capacity →
      ContinuesWith .frGnp s .frShb (begun s p))

/-- R208, R210: a header write and what follows it. -/
def Obligations.HeaderWrite : Prop :=
  (∀ s : State, s.ctl.txEn = true → s.tx.fstate = .sendingHeaderBurst → TickSelects s .frShb) ∧
  (∀ s : State, s.ctl.maxBurst.toNat ≤ s.tx.burst.toNat →
    Gives .frShb s (waiting s .waitingForHeaderBurstIngestion false)) ∧
  (∀ (s : State) (e : TxEntry), s.tx.fstate = .sendingHeaderBurst → s.headTx? s.tx.txCur = some e → CapsLegal s →
    s.tx.hdrPos.toNat < 13 → s.tx.burst.toNat < s.ctl.maxBurst.toNat →
    let n := min (min (s.ctl.maxBurst.toNat - s.tx.burst.toNat) s.ctl.maxAtomic.toNat) (13 - s.tx.hdrPos.toNat)
    let w := answerTo s n
    let header := headerBytes s.params.startTok s.tx.txCur e.seq e.len e.cont e.init e.ack
    let t := sent s (header.drop s.tx.hdrPos.toNat) w
      { s.tx with hdrPos := s.tx.hdrPos + BitVec.ofNat 4 w, burst := s.tx.burst + BitVec.ofNat 32 w }
    let ends := s.tx.hdrPos.toNat + w = 13 ∨ s.ctl.maxBurst.toNat ≤ s.tx.burst.toNat + w
    (ends → Gives .frShb s (waiting t .waitingForHeaderBurstIngestion false)) ∧
    (¬ ends → w < n → Gives .frShb s (silent t)) ∧
    (¬ ends → w = n → ContinuesWith .frShb s .frShb t))

/-- R209, R216, R217: before the wait is over a tick returns the time left and changes nothing. -/
def Obligations.WaitNotOver : Prop :=
  (∀ s : State, s.ctl.txEn = true →
    (s.tx.fstate = .waitingForHeaderBurstIngestion → TickSelects s .frWhbi) ∧
    (s.tx.fstate = .waitingForBurstIngestion → TickSelects s .frWbi) ∧
    (s.tx.fstate = .waitingForPartialBurstIngestion → TickSelects s .frWpbi)) ∧
  (∀ (s : State) (i : Instr), (i = .frWhbi ∨ i = .frWbi ∨ i = .frWpbi) → s.env.now.toNat < s.tx.waitUntil.toNat →
    Gives i s { s with env := { s.env with
      hint := .wait (BitVec.ofNat 64 (s.tx.waitUntil.toNat - s.env.now.toNat)) } })

/-- R209, R216, R217: once the wait is over the tick goes on: the rest of the header, the body, or the next selection. -/
def Obligations.WaitOver : Prop :=
  ∀ s : State, CapsLegal s → s.tx.waitUntil.toNat ≤ s.env.now.toNat →
    (∀ e, s.headTx? s.tx.txCur = some e → s.tx.hdrPos.toNat < 13 →
      ContinuesWith .frWhbi s .frShb { s with tx := { s.tx with burst := 0, fstate := .sendingHeaderBurst } }) ∧
    (∀ e, s.headTx? s.tx.txCur = some e → s.tx.hdrPos = 13 →
      ContinuesWith .frWhbi s .frSb { s with tx := { s.tx with
        burst := 0, bpos := 0, escPending := false, fstate := .sendingBurst } }) ∧
    (∀ e, s.headTx? s.tx.txCur = some e → BodyPosition s e → s.tx.fDone = false →
      ContinuesWith .frWbi s .frSb { s with tx := { s.tx with burst := 0, fstate := .sendingBurst } }) ∧
    (s.tx.fDone = true → ContinuesWith .frWbi s .frGnp { s with tx := { s.tx with
      burst := 0, fDone := false, fstate := .gettingNextPacket } }) ∧
    ContinuesWith .frWpbi s .frGnp { s with tx := { s.tx with burst := 0, fstate := .gettingNextPacket } }

/-- R211: a body write that neither completes the frame nor is preempted. -/
def Obligations.BodyWrite : Prop :=
  (∀ s : State, s.ctl.txEn = true → s.tx.fstate = .sendingBurst → TickSelects s .frSb) ∧
  (∀ s : State, s.ctl.maxBurst.toNat ≤ s.tx.burst.toNat → Gives .frSb s (waiting s .waitingForBurstIngestion false)) ∧
  (∀ (s : State) (e : TxEntry), s.tx.fstate = .sendingBurst → s.headTx? s.tx.txCur = some e → CapsLegal s →
    BodyPosition s e → s.tx.burst.toNat < s.ctl.maxBurst.toNat → ¬ BodyDone s e → ¬ MustPreempt s e →
    let w := answerTo s (bodySize s e)
    (s.ctl.maxBurst.toNat ≤ s.tx.burst.toNat + w →
      Gives .frSb s (waiting (bodyWritten s e) .waitingForBurstIngestion false)) ∧
    (s.tx.burst.toNat + w < s.ctl.maxBurst.toNat → w < bodySize s e → Gives .frSb s (silent (bodyWritten s e))) ∧
    (s.tx.burst.toNat + w < s.ctl.maxBurst.toNat → w = bodySize s e →
      ContinuesWith .frSb s .frSb (bodyWritten s e)))

/-- R211, R212, R213, R214: the write that completes the packet: delivery accounting, the pop, the final wait. The sum
`tx_break + len` is exact: log 14 (DEDUCED). -/
def Obligations.BodyCompletes : Prop :=
  ∀ (s : State) (e : TxEntry) (rest : List TxEntry), (s.txp s.tx.txCur).queue = e :: rest →
    s.tx.burst.toNat < s.ctl.maxBurst.toNat → BodyDone s e →
    let p := s.tx.txCur
    let x := s.txp p
    let t := bodyWritten s e
    let full := x.brk.toNat + e.len.toNat
    let counted := e.init = false ∧ accepts s.params.txAccept
      { prio := p, seq := e.seq, len := BitVec.ofNat 16 full, cont := e.cont, init := e.init, ack := e.ack,
        csum := e.csum, content := s.contentBytes .tx p e.content 0 full } = true
    let isNew := x.lastSeq = 0xFFFFFFFFFFFFFFFF ∨ x.lastSeq.toNat < e.seq.toNat
    let lat := s.env.now - e.commitTime
    (¬ counted → Gives .frSb s (waiting (t.setTxp p { x with queue := rest }) .waitingForBurstIngestion true)) ∧
    (counted → isNew → x.total ≠ 0 → Gives .frSb s (waiting (t.setTxp p { x with
      queue := rest, sent := x.sent + 1, latency := x.latency + lat,
      latPerByte := x.latPerByte + BitVec.ofNat 64 (lat.toNat / x.total.toNat),
      reliable := x.reliable + (if e.ack then 1 else 0), lastSeq := e.seq }) .waitingForBurstIngestion true)) ∧
    (counted → ¬ isNew → Gives .frSb s
      (waiting (t.setTxp p { x with queue := rest, retx := x.retx + 1 }) .waitingForBurstIngestion true))

/-- R211, R215: a preempted packet becomes a continuation from the offset reached. The sums `tx_break + len` and
`tx_break + bpos` are exact: log 14 (DEDUCED). -/
def Obligations.BodyPreempted : Prop :=
  ∀ (s : State) (e : TxEntry) (rest : List TxEntry), (s.txp s.tx.txCur).queue = e :: rest →
    s.tx.burst.toNat < s.ctl.maxBurst.toNat → ¬ BodyDone s e → MustPreempt s e →
    let p := s.tx.txCur
    let x := s.txp p
    let t := bodyWritten s e
    let full := x.brk.toNat + e.len.toNat
    let a := min (x.brk.toNat + t.tx.bpos.toNat) full
    Gives .frSb s (waiting (t.setTxp p { x with
      brk := BitVec.ofNat 16 a,
      queue := { e with cont := true, len := BitVec.ofNat 16 (full - a) } :: rest })
      .waitingForPartialBurstIngestion false)

/-- R204: `Advance(w)` moves past exactly the `w` wire bytes accepted, and the wire runs out exactly when the body is done. -/
def Obligations.AdvanceFollowsWire : Prop :=
  ∀ (P : Params) (body : List Byte) (bpos : W16) (esc : Bool) (w : Nat), body.length < 2 ^ 16 →
    bpos.toNat ≤ body.length → (esc = true → body[bpos.toNat]? = some P.startTok) → w ≤ (wire P body bpos esc).length →
    let r := advance P.startTok body w bpos esc
    wire P body r.1 r.2 = (wire P body bpos esc).drop w ∧ r.1.toNat ≤ body.length ∧
      (r.2 = true → body[r.1.toNat]? = some P.startTok) ∧
      (w = (wire P body bpos esc).length ↔ r.1.toNat = body.length ∧ r.2 = false)

/-- R222, R225: a tick writes at most `MAX_BURST` bytes, in order after those already out, with at most `MAX_BURST` + 1 write
requests. -/
def Obligations.TickIsBounded : Prop :=
  ∀ (s t : State) (i : Instr), TickSelects s i → Gives i s t →
    (∃ bs : List Byte, t.env.linkOut = s.env.linkOut ++ bs ∧ bs.length ≤ s.ctl.maxBurst.toNat) ∧
    s.env.answers.length ≤ t.env.answers.length + s.ctl.maxBurst.toNat + 1

/-- R221: a header is never interrupted: header operations change no TX FIFO and lead only to the header or its wait. -/
def Obligations.HeaderIsNotPreempted : Prop :=
  ∀ s t : State, s.tx.fstate = .sendingHeaderBurst → Gives .frShb s t → t.txPrio = s.txPrio ∧ t.tx.txCur = s.tx.txCur ∧
    (t.tx.fstate = .sendingHeaderBurst ∨ t.tx.fstate = .waitingForHeaderBurstIngestion)

/-! ### Host accesses -/

/-- R262, R263, R270, R274: reads of the global registers. -/
def Obligations.GlobalRegisterReads : Prop :=
  ∀ s : State,
    (s.params.Legal → Returns .hrParams s (BitVec.ofNat 64 (s.params.nPrio + s.params.qdepth * 2 ^ 8 +
      s.params.capacity * 2 ^ 16 + 13 * 2 ^ 32 + 4 * 2 ^ 40 + s.params.startTok.toNat * 2 ^ 48 +
      s.params.escTok.toNat * 2 ^ 56))) ∧
    Returns .hrCtrl s (BitVec.ofNat 64 (s.ctl.rxEn.toNat + s.ctl.txEn.toNat * 2 + s.ctl.lastStartResync.toNat * 4)) ∧
    Returns .hrStatus s (BitVec.ofNat 64 (s.rx.dstate.code.toNat + s.tx.fstate.code.toNat * 2 ^ 4 +
      s.tx.escPending.toNat * 2 ^ 7 + s.ctl.fatal.toNat * 2 ^ 8 + s.ctl.busErr.toNat * 2 ^ 9 +
      s.ctl.hostErr.toNat * 2 ^ 10 + s.ctl.hostErrCause.toNat * 2 ^ 11 + s.tx.fDone.toNat * 2 ^ 13 +
      s.rx.rxCur.toNat * 2 ^ 16 + s.tx.txCur.toNat * 2 ^ 20 + s.rx.lastCause.toNat * 2 ^ 24)) ∧
    Returns .hrCfgMaxBurst s (BitVec.ofNat 64 s.ctl.maxBurst.toNat) ∧
    Returns .hrCfgMaxAtomic s (BitVec.ofNat 64 s.ctl.maxAtomic.toNat) ∧
    Returns .hrCfgNsPerByte s (BitVec.ofNat 64 s.ctl.nsPerByte.toNat) ∧
    Returns .hrRxDiscardCount s s.rx.discardCount ∧ Returns .hrTxWaitUntil s s.tx.waitUntil ∧
    Returns .hrDbgRx s (BitVec.ofNat 64 (s.rx.hdrCnt.toNat + s.rx.ftrPos.toNat * 2 ^ 4 + s.rx.curOff.toNat * 2 ^ 16)) ∧
    Returns .hrDbgTx s (BitVec.ofNat 64 (s.tx.hdrPos.toNat + s.tx.bpos.toNat * 2 ^ 16 + s.tx.burst.toNat * 2 ^ 32))

/-- R275 to R277, R279, R261: reads of the transmit registers. A content byte never written reads the free value (log 3). -/
def Obligations.TransmitRegisterReads : Prop :=
  ∀ s : State,
    let x := s.txp s.ctl.txSel
    Returns .hrTxSel s (BitVec.ofNat 64 s.ctl.txSel.toNat) ∧ Returns .hrTxSeq s x.slot.seq ∧
    Returns .hrTxLen s (BitVec.ofNat 64 x.slot.len.toNat) ∧
    Returns .hrTxFlags s (BitVec.ofNat 64 (x.slot.cont.toNat + x.slot.init.toNat * 2 + x.slot.ack.toNat * 4)) ∧
    Returns .hrTxCommit s 0 ∧ Returns .hrTxCount s (BitVec.ofNat 64 (x.queue.length % 256)) ∧
    ∀ i : BitVec 13, Returns (.hrTxContent i) s (BitVec.ofNat 64 ((Memory.read? x.slot.content i.toNat).getD
      (Config.unspecifiedByte s.env.epoch .tx s.ctl.txSel i.toNat)).toNat)

/-- R280 to R282, R261: reads of the receive registers. -/
def Obligations.ReceiveRegisterReads : Prop :=
  ∀ s : State,
    Returns .hrRxSel s (BitVec.ofNat 64 s.ctl.rxSel.toNat) ∧
    Returns .hrRxCount s (BitVec.ofNat 64 ((s.rxp s.ctl.rxSel).queue.length % 256)) ∧
    HeadReads .hrRxHeadSeq s RxEntry.seq ∧ HeadReads .hrRxHeadLen s (fun e => BitVec.ofNat 64 e.len.toNat) ∧
    HeadReads .hrRxHeadFlags s (fun e => BitVec.ofNat 64 (e.init.toNat * 2 + e.ack.toNat * 4)) ∧
    HeadReads .hrRxHeadCsum s (fun e => BitVec.ofNat 64 e.csum.toNat) ∧ HeadReads .hrRxHeadTime s RxEntry.commitTime ∧
    Returns .hrRxConsume s 0 ∧
    ∀ i : BitVec 13, HeadReads (.hrRxContent i) s (fun e =>
      if i.toNat < e.len.toNat then BitVec.ofNat 64 (e.content.getD i.toNat 0).toNat else 0)

/-- R284: reads of a per-priority block. -/
def Obligations.PriorityBlockReads : Prop :=
  ∀ (s : State) (p : Prio),
    Returns (.hrStatSent p) s (s.txp p).sent ∧ Returns (.hrStatRetx p) s (s.txp p).retx ∧
    Returns (.hrStatReliable p) s (s.txp p).reliable ∧ Returns (.hrStatLatency p) s (s.txp p).latency ∧
    Returns (.hrStatLatPerByte p) s (s.txp p).latPerByte ∧ Returns (.hrLastSeq p) s (s.txp p).lastSeq ∧
    Returns (.hrTxTotal p) s (BitVec.ofNat 64 (s.txp p).total.toNat) ∧
    Returns (.hrTxBreak p) s (BitVec.ofNat 64 (s.txp p).brk.toNat) ∧
    Returns (.hrRxActive p) s (BitVec.ofNat 64 (s.rxp p).active.toNat) ∧
    Returns (.hrRxBreak p) s (BitVec.ofNat 64 (s.rxp p).brk.toNat) ∧
    Returns (.hrRxSlotSeq p) s (s.rxp p).slot.seq ∧ Returns (.hrRxSlotLen p) s (BitVec.ofNat 64 (s.rxp p).slot.len.toNat)

/-- R261: a write of a read-only register changes nothing. -/
def Obligations.ReadOnlyWrites : Prop :=
  ∀ (s : State) (v : W64) (p : Prio) (k : BitVec 4) (n : BitVec 13),
    Writes (.hwParams v) s s ∧ Writes (.hwRxDiscardCount v) s s ∧ Writes (.hwTxWaitUntil v) s s ∧
    Writes (.hwDbgRx v) s s ∧ Writes (.hwDbgTx v) s s ∧ Writes (.hwTxCount v) s s ∧ Writes (.hwRxCount v) s s ∧
    Writes (.hwRxHeadSeq v) s s ∧ Writes (.hwRxHeadLen v) s s ∧ Writes (.hwRxHeadFlags v) s s ∧
    Writes (.hwRxHeadCsum v) s s ∧ Writes (.hwRxHeadTime v) s s ∧ Writes (.hwPrioBlock p k v) s s ∧
    Writes (.hwRxContent n v) s s

/-- R264 to R269: a write of CTRL, item by item. -/
def Obligations.ControlWrite : Prop :=
  ∀ (s : State) (v : W64),
    let rxSrst := v.getLsbD 8
    let txSrst := v.getLsbD 9 || v.getLsbD 11
    let clear := v.getLsbD 12
    ∃ t : State, Writes (.hwCtrl v) s t ∧ t.params = s.params ∧ t.env = s.env ∧
      t.ctl = { s.ctl with rxEn := v.getLsbD 0, txEn := v.getLsbD 1, lastStartResync := v.getLsbD 2,
                           fatal := if txSrst then false else s.ctl.fatal } ∧
      t.rx = { (if rxSrst then { s.rx with dstate := .waitingForPacket, hdrBuf := Vector.replicate 13 0, hdrCnt := 0,
                                           rxCur := 0, curOff := 0, ftrBuf := Vector.replicate 4 0, ftrPos := 0 }
                else s.rx) with
               discardCount := if clear then 0 else s.rx.discardCount
               lastCause := if clear then 0 else s.rx.lastCause } ∧
      t.tx = (if txSrst then { fstate := .gettingNextPacket, txCur := 0, hdrPos := 0, bpos := 0, escPending := false,
                               burst := 0, waitUntil := 0, fDone := false } else s.tx) ∧
      (∀ p, t.rxp p = { s.rxp p with
        active := if rxSrst then false else (s.rxp p).active
        brk := if rxSrst then 0 else (s.rxp p).brk
        queue := if v.getLsbD 10 then [] else (s.rxp p).queue }) ∧
      (∀ p, t.txp p = { s.txp p with
        sent := if clear then 0 else (s.txp p).sent
        retx := if clear then 0 else (s.txp p).retx
        reliable := if clear then 0 else (s.txp p).reliable
        latency := if clear then 0 else (s.txp p).latency
        latPerByte := if clear then 0 else (s.txp p).latPerByte
        queue := if v.getLsbD 11 then [] else (s.txp p).queue })

/-- R271: STATUS, write one to clear. -/
def Obligations.StatusWrite : Prop :=
  ∀ (s : State) (v : W64), Writes (.hwStatus v) s { s with ctl := { s.ctl with
    busErr := if v.getLsbD 9 then false else s.ctl.busErr
    hostErr := if v.getLsbD 10 then false else s.ctl.hostErr
    hostErrCause := if v.getLsbD 10 then 0 else s.ctl.hostErrCause } }

/-- R272, R273: the pacing configuration. -/
def Obligations.ConfigurationWrites : Prop :=
  ∀ (s : State) (v : W64),
    let x : W32 := if v.toNat % 2 ^ 32 = 0 then 1 else BitVec.ofNat 32 v.toNat
    Writes (.hwCfgMaxBurst v) s { s with ctl := { s.ctl with maxBurst := x } } ∧
    Writes (.hwCfgMaxAtomic v) s { s with ctl := { s.ctl with maxAtomic := x } } ∧
    Writes (.hwCfgNsPerByte v) s { s with ctl := { s.ctl with nsPerByte := BitVec.ofNat 32 v.toNat } }

/-- R275, R280: the selectors. -/
def Obligations.SelectorWrites : Prop :=
  ∀ (s : State) (v : W64), s.params.Legal →
    Writes (.hwTxSel v) s { s with ctl := { s.ctl with txSel := newSelector s.params s.ctl.txSel v } } ∧
    Writes (.hwRxSel v) s { s with ctl := { s.ctl with rxSel := newSelector s.params s.ctl.rxSel v } }

/-- R276, R277: the fields of the selected TX slot, and one content byte: every other offset keeps its byte. -/
def Obligations.SlotWrites : Prop :=
  ∀ (s : State) (v : W64),
    let p := s.ctl.txSel
    let x := s.txp p
    Writes (.hwTxSeq v) s (s.setTxp p { x with slot := { x.slot with seq := v } }) ∧
    Writes (.hwTxLen v) s (s.setTxp p { x with slot := { x.slot with len := BitVec.ofNat 16 v.toNat } }) ∧
    Writes (.hwTxFlags v) s (s.setTxp p { x with slot := { x.slot with
      cont := v.getLsbD 0, init := v.getLsbD 1, ack := v.getLsbD 2 } }) ∧
    ∀ i : BitVec 13, ∃ m : Memory, Memory.read? m i.toNat = some (BitVec.ofNat 8 v.toNat) ∧
      (∀ j, j ≠ i.toNat → Memory.read? m j = Memory.read? x.slot.content j) ∧
      Writes (.hwTxContent i v) s (s.setTxp p { x with slot := { x.slot with content := m } })

/-- R278: a commit, its two refusals in order, and the entry it pushes. -/
def Obligations.Commit : Prop :=
  ∀ (s : State) (v : W64),
    let p := s.ctl.txSel
    let x := s.txp p
    (s.params.capacity < x.slot.len.toNat →
      Writes (.hwTxCommit v) s { s with ctl := { s.ctl with hostErr := true, hostErrCause := 1 } }) ∧
    (x.slot.len.toNat ≤ s.params.capacity → x.queue.length = s.params.qdepth →
      Writes (.hwTxCommit v) s { s with ctl := { s.ctl with hostErr := true, hostErrCause := 2 } }) ∧
    (x.slot.len.toNat ≤ s.params.capacity → x.queue.length ≠ s.params.qdepth →
      Writes (.hwTxCommit v) s (s.setTxp p { x with queue := x.queue ++ [{
        seq := x.slot.seq, len := x.slot.len, cont := x.slot.cont, init := x.slot.init, ack := x.slot.ack, csum := 0,
        commitTime := s.env.now, content := x.slot.content }] }))

/-- R283: a consume pops the oldest entry; of an empty FIFO it has no effect. -/
def Obligations.Consume : Prop :=
  ∀ (s : State) (v : W64),
    let p := s.ctl.rxSel
    ((s.rxp p).queue = [] → Writes (.hwRxConsume v) s s) ∧
    (∀ e rest, (s.rxp p).queue = e :: rest →
      Writes (.hwRxConsume v) s (s.setRxp p { s.rxp p with queue := rest }))

/-- R260, R325: an access to no register sets BUS_ERR, returns 0 and does nothing else. -/
def Obligations.UnmappedAccess : Prop :=
  ∀ (s : State) (we : Bool) (a : Addr) (v : W64),
    Writes (.hbErr we a v) s { s with ctl := { s.ctl with busErr := true } }

/-! ### The whole block -/

/-- R10: no step changes the parameters. -/
def Obligations.ParametersAreConstant : Prop := ∀ s t : State, step s = .next t → t.params = s.params

/-- R335: the deframer and the framer change disjoint state. A link byte changes no transmit or control item; a tick changes no
receive item, and of the control items only FATAL, which it only sets. -/
def Obligations.EnginesAreDisjoint : Prop :=
  (∀ (s t : State) (b : Byte) (now : W64) (rest : List Event), s.env.pending = .link b now :: rest → step s = .next t →
    t.tx = s.tx ∧ t.txPrio = s.txPrio ∧ t.ctl = s.ctl ∧ t.env.linkOut = s.env.linkOut) ∧
  (∀ (s t : State) (now : W64) (ws : List Nat) (rest : List Event), s.env.pending = .tick now ws :: rest →
    step s = .next t →
    t.rx = s.rx ∧ t.rxPrio = s.rxPrio ∧ (t.ctl = s.ctl ∨ t.ctl = { s.ctl with fatal := true }) ∧
    ∀ p, (t.txp p).slot = (s.txp p).slot)

/-- R178, R326, R84: a link byte appends at most one packet to one RX FIFO and changes no committed packet; it counts at most one
discard, and never both. -/
def Obligations.ReceiveQueuesOnlyGrow : Prop :=
  ∀ (s t : State) (b : Byte) (now : W64) (rest : List Event), s.env.pending = .link b now :: rest → step s = .next t →
    ((∀ p, (t.rxp p).queue = (s.rxp p).queue) ∧
      (t.rx.discardCount = s.rx.discardCount ∨ t.rx.discardCount = s.rx.discardCount + 1)) ∨
    (t.rx.discardCount = s.rx.discardCount ∧ t.rx.lastCause = s.rx.lastCause ∧
      ∃ e, (t.rxp s.rx.rxCur).queue = (s.rxp s.rx.rxCur).queue ++ [e] ∧
        ∀ q, q ≠ s.rx.rxCur → (t.rxp q).queue = (s.rxp q).queue)

/-- The machine right after a hard reset is sound. -/
def Obligations.SoundAtReset : Prop := Sound State.reset

/-- Every step keeps a sound state sound: the invariants that R21, R38, R144, R149, R150, R173, R206, R211, R219 and R324 derive. -/
def Obligations.EveryStepKeepsSound : Prop := ∀ s t : State, Sound s → step s = .next t → Sound t

/-- A sound block never stops: whatever the next event, a step answers a next state. -/
def Obligations.SoundStatesNeverStop : Prop := ∀ s : State, Sound s → SafeStep s

/-- R178, R175: from every sound state, whatever was being received, a complete well-formed fresh frame is committed. -/
def Obligations.FreshFrameIsCommitted : Prop :=
  ∀ (s : State) (p : Prio) (seq : W64) (init ack : Bool) (content : List Byte) (now : W64),
    let P := s.params
    let len : W16 := BitVec.ofNat 16 content.length
    let header := canonHdr P.startTok p seq len init ack
    let csum := packetSum P p seq len init ack content
    Sound s → s.ctl.rxEn = true → p.toNat < P.nPrio → content.length ≤ P.capacity →
    (∀ b ∈ header.drop 1, b ≠ P.startTok ∧ b ≠ P.escTok) →
    (s.ctl.lastStartResync = false ∨
      (content.getLast? ≠ some P.startTok ∧ BitVec.ofNat 8 csum.toNat ≠ P.startTok)) →
    accepts P.rxAccept { prio := p, seq := seq, len := len, cont := false, init := init, ack := ack, csum := csum,
                         content := content } = true →
    (s.rxp p).queue.length < P.qdepth →
    ∃ t, feed now (header ++ stuff P.startTok P.escTok (content ++ footerBytes csum)) s = .next t ∧
      t.rx.dstate = .waitingForPacket ∧
      (t.rxp p).queue = (s.rxp p).queue ++ [{ seq := seq, len := len, init := init, ack := ack, csum := csum,
                                              commitTime := now, content := content }] ∧
      ∀ q, q ≠ p → (t.rxp q).queue = (s.rxp q).queue
end

