-- ==== Sys2Proof/Laws/State.lean ====
section
/-! SUPPORT. What each named update leaves of each part of the state, one lemma a part. -/

namespace Sys2Proof.Machine

/-! ### setRxp -/

@[simp] theorem State.setRxp_params (s : State) (p : Prio) (x : RxPrio) : (s.setRxp p x).params = s.params := rfl
@[simp] theorem State.setRxp_rx (s : State) (p : Prio) (x : RxPrio) : (s.setRxp p x).rx = s.rx := rfl
@[simp] theorem State.setRxp_tx (s : State) (p : Prio) (x : RxPrio) : (s.setRxp p x).tx = s.tx := rfl
@[simp] theorem State.setRxp_txPrio (s : State) (p : Prio) (x : RxPrio) : (s.setRxp p x).txPrio = s.txPrio := rfl
@[simp] theorem State.setRxp_ctl (s : State) (p : Prio) (x : RxPrio) : (s.setRxp p x).ctl = s.ctl := rfl
@[simp] theorem State.setRxp_env (s : State) (p : Prio) (x : RxPrio) : (s.setRxp p x).env = s.env := rfl
@[simp] theorem State.setRxp_txp (s : State) (p : Prio) (x : RxPrio) (y : Prio) : (s.setRxp p x).txp y = s.txp y := by simp only [State.txp, State.setRxp_txPrio]

/-! ### setTxp -/

@[simp] theorem State.setTxp_params (s : State) (p : Prio) (x : TxPrio) : (s.setTxp p x).params = s.params := rfl
@[simp] theorem State.setTxp_rx (s : State) (p : Prio) (x : TxPrio) : (s.setTxp p x).rx = s.rx := rfl
@[simp] theorem State.setTxp_rxPrio (s : State) (p : Prio) (x : TxPrio) : (s.setTxp p x).rxPrio = s.rxPrio := rfl
@[simp] theorem State.setTxp_tx (s : State) (p : Prio) (x : TxPrio) : (s.setTxp p x).tx = s.tx := rfl
@[simp] theorem State.setTxp_ctl (s : State) (p : Prio) (x : TxPrio) : (s.setTxp p x).ctl = s.ctl := rfl
@[simp] theorem State.setTxp_env (s : State) (p : Prio) (x : TxPrio) : (s.setTxp p x).env = s.env := rfl
@[simp] theorem State.setTxp_rxp (s : State) (p : Prio) (x : TxPrio) (y : Prio) : (s.setTxp p x).rxp y = s.rxp y := by simp only [State.rxp, State.setTxp_rxPrio]

/-! ### setSelTx -/

@[simp] theorem State.setSelTx_params (s : State) (t : TxSlot) : (s.setSelTx t).params = s.params := rfl
@[simp] theorem State.setSelTx_rx (s : State) (t : TxSlot) : (s.setSelTx t).rx = s.rx := rfl
@[simp] theorem State.setSelTx_rxPrio (s : State) (t : TxSlot) : (s.setSelTx t).rxPrio = s.rxPrio := rfl
@[simp] theorem State.setSelTx_tx (s : State) (t : TxSlot) : (s.setSelTx t).tx = s.tx := rfl
@[simp] theorem State.setSelTx_ctl (s : State) (t : TxSlot) : (s.setSelTx t).ctl = s.ctl := rfl
@[simp] theorem State.setSelTx_env (s : State) (t : TxSlot) : (s.setSelTx t).env = s.env := rfl
@[simp] theorem State.setSelTx_rxp (s : State) (t : TxSlot) (y : Prio) : (s.setSelTx t).rxp y = s.rxp y := by simp only [State.rxp, State.setSelTx_rxPrio]

/-! ### pushRx -/

@[simp] theorem State.pushRx_params (s : State) (p : Prio) (e : RxEntry) : (s.pushRx p e).params = s.params := rfl
@[simp] theorem State.pushRx_rx (s : State) (p : Prio) (e : RxEntry) : (s.pushRx p e).rx = s.rx := rfl
@[simp] theorem State.pushRx_tx (s : State) (p : Prio) (e : RxEntry) : (s.pushRx p e).tx = s.tx := rfl
@[simp] theorem State.pushRx_txPrio (s : State) (p : Prio) (e : RxEntry) : (s.pushRx p e).txPrio = s.txPrio := rfl
@[simp] theorem State.pushRx_ctl (s : State) (p : Prio) (e : RxEntry) : (s.pushRx p e).ctl = s.ctl := rfl
@[simp] theorem State.pushRx_env (s : State) (p : Prio) (e : RxEntry) : (s.pushRx p e).env = s.env := rfl
@[simp] theorem State.pushRx_txp (s : State) (p : Prio) (e : RxEntry) (y : Prio) : (s.pushRx p e).txp y = s.txp y := by simp only [State.txp, State.pushRx_txPrio]

/-! ### popRx -/

@[simp] theorem State.popRx_params (s : State) (p : Prio) : (s.popRx p).params = s.params := rfl
@[simp] theorem State.popRx_rx (s : State) (p : Prio) : (s.popRx p).rx = s.rx := rfl
@[simp] theorem State.popRx_tx (s : State) (p : Prio) : (s.popRx p).tx = s.tx := rfl
@[simp] theorem State.popRx_txPrio (s : State) (p : Prio) : (s.popRx p).txPrio = s.txPrio := rfl
@[simp] theorem State.popRx_ctl (s : State) (p : Prio) : (s.popRx p).ctl = s.ctl := rfl
@[simp] theorem State.popRx_env (s : State) (p : Prio) : (s.popRx p).env = s.env := rfl
@[simp] theorem State.popRx_txp (s : State) (p : Prio) (y : Prio) : (s.popRx p).txp y = s.txp y := by simp only [State.txp, State.popRx_txPrio]

/-! ### pushTx -/

@[simp] theorem State.pushTx_params (s : State) (p : Prio) (e : TxEntry) : (s.pushTx p e).params = s.params := rfl
@[simp] theorem State.pushTx_rx (s : State) (p : Prio) (e : TxEntry) : (s.pushTx p e).rx = s.rx := rfl
@[simp] theorem State.pushTx_rxPrio (s : State) (p : Prio) (e : TxEntry) : (s.pushTx p e).rxPrio = s.rxPrio := rfl
@[simp] theorem State.pushTx_tx (s : State) (p : Prio) (e : TxEntry) : (s.pushTx p e).tx = s.tx := rfl
@[simp] theorem State.pushTx_ctl (s : State) (p : Prio) (e : TxEntry) : (s.pushTx p e).ctl = s.ctl := rfl
@[simp] theorem State.pushTx_env (s : State) (p : Prio) (e : TxEntry) : (s.pushTx p e).env = s.env := rfl
@[simp] theorem State.pushTx_rxp (s : State) (p : Prio) (e : TxEntry) (y : Prio) : (s.pushTx p e).rxp y = s.rxp y := by simp only [State.rxp, State.pushTx_rxPrio]

/-! ### popTx -/

@[simp] theorem State.popTx_params (s : State) (p : Prio) : (s.popTx p).params = s.params := rfl
@[simp] theorem State.popTx_rx (s : State) (p : Prio) : (s.popTx p).rx = s.rx := rfl
@[simp] theorem State.popTx_rxPrio (s : State) (p : Prio) : (s.popTx p).rxPrio = s.rxPrio := rfl
@[simp] theorem State.popTx_tx (s : State) (p : Prio) : (s.popTx p).tx = s.tx := rfl
@[simp] theorem State.popTx_ctl (s : State) (p : Prio) : (s.popTx p).ctl = s.ctl := rfl
@[simp] theorem State.popTx_env (s : State) (p : Prio) : (s.popTx p).env = s.env := rfl
@[simp] theorem State.popTx_rxp (s : State) (p : Prio) (y : Prio) : (s.popTx p).rxp y = s.rxp y := by simp only [State.rxp, State.popTx_rxPrio]

/-! ### setHeadTx -/

@[simp] theorem State.setHeadTx_params (s : State) (p : Prio) (e : TxEntry) : (s.setHeadTx p e).params = s.params := rfl
@[simp] theorem State.setHeadTx_rx (s : State) (p : Prio) (e : TxEntry) : (s.setHeadTx p e).rx = s.rx := rfl
@[simp] theorem State.setHeadTx_rxPrio (s : State) (p : Prio) (e : TxEntry) : (s.setHeadTx p e).rxPrio = s.rxPrio := rfl
@[simp] theorem State.setHeadTx_tx (s : State) (p : Prio) (e : TxEntry) : (s.setHeadTx p e).tx = s.tx := rfl
@[simp] theorem State.setHeadTx_ctl (s : State) (p : Prio) (e : TxEntry) : (s.setHeadTx p e).ctl = s.ctl := rfl
@[simp] theorem State.setHeadTx_env (s : State) (p : Prio) (e : TxEntry) : (s.setHeadTx p e).env = s.env := rfl
@[simp] theorem State.setHeadTx_rxp (s : State) (p : Prio) (e : TxEntry) (y : Prio) : (s.setHeadTx p e).rxp y = s.rxp y := by simp only [State.rxp, State.setHeadTx_rxPrio]

/-! ### readDone -/

@[simp] theorem State.readDone_params (s : State) (v : W64) : (s.readDone v).params = s.params := rfl
@[simp] theorem State.readDone_rx (s : State) (v : W64) : (s.readDone v).rx = s.rx := rfl
@[simp] theorem State.readDone_rxPrio (s : State) (v : W64) : (s.readDone v).rxPrio = s.rxPrio := rfl
@[simp] theorem State.readDone_tx (s : State) (v : W64) : (s.readDone v).tx = s.tx := rfl
@[simp] theorem State.readDone_txPrio (s : State) (v : W64) : (s.readDone v).txPrio = s.txPrio := rfl
@[simp] theorem State.readDone_ctl (s : State) (v : W64) : (s.readDone v).ctl = s.ctl := rfl
@[simp] theorem State.readDone_rxp (s : State) (v : W64) (y : Prio) : (s.readDone v).rxp y = s.rxp y := by simp only [State.rxp, State.readDone_rxPrio]
@[simp] theorem State.readDone_txp (s : State) (v : W64) (y : Prio) : (s.readDone v).txp y = s.txp y := by simp only [State.txp, State.readDone_txPrio]

/-! ### writeDone -/

@[simp] theorem State.writeDone_params (s : State) : (s.writeDone).params = s.params := rfl
@[simp] theorem State.writeDone_rx (s : State) : (s.writeDone).rx = s.rx := rfl
@[simp] theorem State.writeDone_rxPrio (s : State) : (s.writeDone).rxPrio = s.rxPrio := rfl
@[simp] theorem State.writeDone_tx (s : State) : (s.writeDone).tx = s.tx := rfl
@[simp] theorem State.writeDone_txPrio (s : State) : (s.writeDone).txPrio = s.txPrio := rfl
@[simp] theorem State.writeDone_ctl (s : State) : (s.writeDone).ctl = s.ctl := rfl
@[simp] theorem State.writeDone_rxp (s : State) (y : Prio) : (s.writeDone).rxp y = s.rxp y := by simp only [State.rxp, State.writeDone_rxPrio]
@[simp] theorem State.writeDone_txp (s : State) (y : Prio) : (s.writeDone).txp y = s.txp y := by simp only [State.txp, State.writeDone_txPrio]

/-! ### latch -/

@[simp] theorem State.latch_params (s : State) (r : List Event) (n : W64) (ws : List Nat) : (s.latch r n ws).params = s.params := rfl
@[simp] theorem State.latch_rx (s : State) (r : List Event) (n : W64) (ws : List Nat) : (s.latch r n ws).rx = s.rx := rfl
@[simp] theorem State.latch_rxPrio (s : State) (r : List Event) (n : W64) (ws : List Nat) : (s.latch r n ws).rxPrio = s.rxPrio := rfl
@[simp] theorem State.latch_tx (s : State) (r : List Event) (n : W64) (ws : List Nat) : (s.latch r n ws).tx = s.tx := rfl
@[simp] theorem State.latch_txPrio (s : State) (r : List Event) (n : W64) (ws : List Nat) : (s.latch r n ws).txPrio = s.txPrio := rfl
@[simp] theorem State.latch_ctl (s : State) (r : List Event) (n : W64) (ws : List Nat) : (s.latch r n ws).ctl = s.ctl := rfl
@[simp] theorem State.latch_rxp (s : State) (r : List Event) (n : W64) (ws : List Nat) (y : Prio) : (s.latch r n ws).rxp y = s.rxp y := by simp only [State.rxp, State.latch_rxPrio]
@[simp] theorem State.latch_txp (s : State) (r : List Event) (n : W64) (ws : List Nat) (y : Prio) : (s.latch r n ws).txp y = s.txp y := by simp only [State.txp, State.latch_txPrio]

/-! ### setTaken -/

@[simp] theorem State.setTaken_params (s : State) (b : Bool) : (s.setTaken b).params = s.params := rfl
@[simp] theorem State.setTaken_rx (s : State) (b : Bool) : (s.setTaken b).rx = s.rx := rfl
@[simp] theorem State.setTaken_rxPrio (s : State) (b : Bool) : (s.setTaken b).rxPrio = s.rxPrio := rfl
@[simp] theorem State.setTaken_tx (s : State) (b : Bool) : (s.setTaken b).tx = s.tx := rfl
@[simp] theorem State.setTaken_txPrio (s : State) (b : Bool) : (s.setTaken b).txPrio = s.txPrio := rfl
@[simp] theorem State.setTaken_ctl (s : State) (b : Bool) : (s.setTaken b).ctl = s.ctl := rfl
@[simp] theorem State.setTaken_rxp (s : State) (b : Bool) (y : Prio) : (s.setTaken b).rxp y = s.rxp y := by simp only [State.rxp, State.setTaken_rxPrio]
@[simp] theorem State.setTaken_txp (s : State) (b : Bool) (y : Prio) : (s.setTaken b).txp y = s.txp y := by simp only [State.txp, State.setTaken_txPrio]

/-! ### offer -/

@[simp] theorem State.offer_params (s : State) (bs : List Byte) : (s.offer bs).params = s.params := rfl
@[simp] theorem State.offer_rx (s : State) (bs : List Byte) : (s.offer bs).rx = s.rx := rfl
@[simp] theorem State.offer_rxPrio (s : State) (bs : List Byte) : (s.offer bs).rxPrio = s.rxPrio := rfl
@[simp] theorem State.offer_tx (s : State) (bs : List Byte) : (s.offer bs).tx = s.tx := rfl
@[simp] theorem State.offer_txPrio (s : State) (bs : List Byte) : (s.offer bs).txPrio = s.txPrio := rfl
@[simp] theorem State.offer_ctl (s : State) (bs : List Byte) : (s.offer bs).ctl = s.ctl := rfl
@[simp] theorem State.offer_rxp (s : State) (bs : List Byte) (y : Prio) : (s.offer bs).rxp y = s.rxp y := by simp only [State.rxp, State.offer_rxPrio]
@[simp] theorem State.offer_txp (s : State) (bs : List Byte) (y : Prio) : (s.offer bs).txp y = s.txp y := by simp only [State.txp, State.offer_txPrio]

/-! ### toDState -/

@[simp] theorem State.toDState_params (s : State) (d : DState) : (s.toDState d).params = s.params := rfl
@[simp] theorem State.toDState_rxPrio (s : State) (d : DState) : (s.toDState d).rxPrio = s.rxPrio := rfl
@[simp] theorem State.toDState_tx (s : State) (d : DState) : (s.toDState d).tx = s.tx := rfl
@[simp] theorem State.toDState_txPrio (s : State) (d : DState) : (s.toDState d).txPrio = s.txPrio := rfl
@[simp] theorem State.toDState_ctl (s : State) (d : DState) : (s.toDState d).ctl = s.ctl := rfl
@[simp] theorem State.toDState_env (s : State) (d : DState) : (s.toDState d).env = s.env := rfl
@[simp] theorem State.toDState_rxp (s : State) (d : DState) (y : Prio) : (s.toDState d).rxp y = s.rxp y := by simp only [State.rxp, State.toDState_rxPrio]
@[simp] theorem State.toDState_txp (s : State) (d : DState) (y : Prio) : (s.toDState d).txp y = s.txp y := by simp only [State.txp, State.toDState_txPrio]

/-! ### startHeader -/

@[simp] theorem State.startHeader_params (s : State) (xs : List Byte) : (s.startHeader xs).params = s.params := rfl
@[simp] theorem State.startHeader_rxPrio (s : State) (xs : List Byte) : (s.startHeader xs).rxPrio = s.rxPrio := rfl
@[simp] theorem State.startHeader_tx (s : State) (xs : List Byte) : (s.startHeader xs).tx = s.tx := rfl
@[simp] theorem State.startHeader_txPrio (s : State) (xs : List Byte) : (s.startHeader xs).txPrio = s.txPrio := rfl
@[simp] theorem State.startHeader_ctl (s : State) (xs : List Byte) : (s.startHeader xs).ctl = s.ctl := rfl
@[simp] theorem State.startHeader_env (s : State) (xs : List Byte) : (s.startHeader xs).env = s.env := rfl
@[simp] theorem State.startHeader_rxp (s : State) (xs : List Byte) (y : Prio) : (s.startHeader xs).rxp y = s.rxp y := by simp only [State.rxp, State.startHeader_rxPrio]
@[simp] theorem State.startHeader_txp (s : State) (xs : List Byte) (y : Prio) : (s.startHeader xs).txp y = s.txp y := by simp only [State.txp, State.startHeader_txPrio]

/-! ### interrupt -/

@[simp] theorem State.interrupt_params (s : State) (xs : List Byte) : (s.interrupt xs).params = s.params := rfl
@[simp] theorem State.interrupt_tx (s : State) (xs : List Byte) : (s.interrupt xs).tx = s.tx := rfl
@[simp] theorem State.interrupt_txPrio (s : State) (xs : List Byte) : (s.interrupt xs).txPrio = s.txPrio := rfl
@[simp] theorem State.interrupt_ctl (s : State) (xs : List Byte) : (s.interrupt xs).ctl = s.ctl := rfl
@[simp] theorem State.interrupt_env (s : State) (xs : List Byte) : (s.interrupt xs).env = s.env := rfl
@[simp] theorem State.interrupt_txp (s : State) (xs : List Byte) (y : Prio) : (s.interrupt xs).txp y = s.txp y := by simp only [State.txp, State.interrupt_txPrio]

/-! ### dropFrame -/

@[simp] theorem State.dropFrame_params (s : State) (c : Byte) : (s.dropFrame c).params = s.params := rfl
@[simp] theorem State.dropFrame_rxPrio (s : State) (c : Byte) : (s.dropFrame c).rxPrio = s.rxPrio := rfl
@[simp] theorem State.dropFrame_tx (s : State) (c : Byte) : (s.dropFrame c).tx = s.tx := rfl
@[simp] theorem State.dropFrame_txPrio (s : State) (c : Byte) : (s.dropFrame c).txPrio = s.txPrio := rfl
@[simp] theorem State.dropFrame_ctl (s : State) (c : Byte) : (s.dropFrame c).ctl = s.ctl := rfl
@[simp] theorem State.dropFrame_env (s : State) (c : Byte) : (s.dropFrame c).env = s.env := rfl
@[simp] theorem State.dropFrame_rxp (s : State) (c : Byte) (y : Prio) : (s.dropFrame c).rxp y = s.rxp y := by simp only [State.rxp, State.dropFrame_rxPrio]
@[simp] theorem State.dropFrame_txp (s : State) (c : Byte) (y : Prio) : (s.dropFrame c).txp y = s.txp y := by simp only [State.txp, State.dropFrame_txPrio]

/-! ### acceptFresh -/

@[simp] theorem State.acceptFresh_params (s : State) (p : Prio) (q : W64) (l : W16) (i a : Bool) : (s.acceptFresh p q l i a).params = s.params := rfl
@[simp] theorem State.acceptFresh_tx (s : State) (p : Prio) (q : W64) (l : W16) (i a : Bool) : (s.acceptFresh p q l i a).tx = s.tx := rfl
@[simp] theorem State.acceptFresh_txPrio (s : State) (p : Prio) (q : W64) (l : W16) (i a : Bool) : (s.acceptFresh p q l i a).txPrio = s.txPrio := rfl
@[simp] theorem State.acceptFresh_ctl (s : State) (p : Prio) (q : W64) (l : W16) (i a : Bool) : (s.acceptFresh p q l i a).ctl = s.ctl := rfl
@[simp] theorem State.acceptFresh_env (s : State) (p : Prio) (q : W64) (l : W16) (i a : Bool) : (s.acceptFresh p q l i a).env = s.env := rfl
@[simp] theorem State.acceptFresh_txp (s : State) (p : Prio) (q : W64) (l : W16) (i a : Bool) (y : Prio) : (s.acceptFresh p q l i a).txp y = s.txp y := by simp only [State.txp, State.acceptFresh_txPrio]

/-! ### acceptContinuation -/

@[simp] theorem State.acceptContinuation_params (s : State) (p : Prio) : (s.acceptContinuation p).params = s.params := rfl
@[simp] theorem State.acceptContinuation_rxPrio (s : State) (p : Prio) : (s.acceptContinuation p).rxPrio = s.rxPrio := rfl
@[simp] theorem State.acceptContinuation_tx (s : State) (p : Prio) : (s.acceptContinuation p).tx = s.tx := rfl
@[simp] theorem State.acceptContinuation_txPrio (s : State) (p : Prio) : (s.acceptContinuation p).txPrio = s.txPrio := rfl
@[simp] theorem State.acceptContinuation_ctl (s : State) (p : Prio) : (s.acceptContinuation p).ctl = s.ctl := rfl
@[simp] theorem State.acceptContinuation_env (s : State) (p : Prio) : (s.acceptContinuation p).env = s.env := rfl
@[simp] theorem State.acceptContinuation_rxp (s : State) (p : Prio) (y : Prio) : (s.acceptContinuation p).rxp y = s.rxp y := by simp only [State.rxp, State.acceptContinuation_rxPrio]
@[simp] theorem State.acceptContinuation_txp (s : State) (p : Prio) (y : Prio) : (s.acceptContinuation p).txp y = s.txp y := by simp only [State.txp, State.acceptContinuation_txPrio]

/-! ### endPacket -/

@[simp] theorem State.endPacket_params (s : State) : (s.endPacket).params = s.params := rfl
@[simp] theorem State.endPacket_tx (s : State) : (s.endPacket).tx = s.tx := rfl
@[simp] theorem State.endPacket_txPrio (s : State) : (s.endPacket).txPrio = s.txPrio := rfl
@[simp] theorem State.endPacket_ctl (s : State) : (s.endPacket).ctl = s.ctl := rfl
@[simp] theorem State.endPacket_env (s : State) : (s.endPacket).env = s.env := rfl
@[simp] theorem State.endPacket_txp (s : State) (y : Prio) : (s.endPacket).txp y = s.txp y := by simp only [State.txp, State.endPacket_txPrio]

/-! ### beginFrame -/

@[simp] theorem State.beginFrame_params (s : State) (p : Prio) : (s.beginFrame p).params = s.params := rfl
@[simp] theorem State.beginFrame_rx (s : State) (p : Prio) : (s.beginFrame p).rx = s.rx := rfl
@[simp] theorem State.beginFrame_rxPrio (s : State) (p : Prio) : (s.beginFrame p).rxPrio = s.rxPrio := rfl
@[simp] theorem State.beginFrame_txPrio (s : State) (p : Prio) : (s.beginFrame p).txPrio = s.txPrio := rfl
@[simp] theorem State.beginFrame_ctl (s : State) (p : Prio) : (s.beginFrame p).ctl = s.ctl := rfl
@[simp] theorem State.beginFrame_env (s : State) (p : Prio) : (s.beginFrame p).env = s.env := rfl
@[simp] theorem State.beginFrame_rxp (s : State) (p : Prio) (y : Prio) : (s.beginFrame p).rxp y = s.rxp y := by simp only [State.rxp, State.beginFrame_rxPrio]
@[simp] theorem State.beginFrame_txp (s : State) (p : Prio) (y : Prio) : (s.beginFrame p).txp y = s.txp y := by simp only [State.txp, State.beginFrame_txPrio]

/-! ### recordFresh -/

@[simp] theorem State.recordFresh_params (s : State) (p : Prio) (e : TxEntry) : (s.recordFresh p e).params = s.params := by simp only [State.recordFresh, State.setHeadTx_params, State.setTxp_params]
@[simp] theorem State.recordFresh_rx (s : State) (p : Prio) (e : TxEntry) : (s.recordFresh p e).rx = s.rx := by simp only [State.recordFresh, State.setHeadTx_rx, State.setTxp_rx]
@[simp] theorem State.recordFresh_rxPrio (s : State) (p : Prio) (e : TxEntry) : (s.recordFresh p e).rxPrio = s.rxPrio := by simp only [State.recordFresh, State.setHeadTx_rxPrio, State.setTxp_rxPrio]
@[simp] theorem State.recordFresh_tx (s : State) (p : Prio) (e : TxEntry) : (s.recordFresh p e).tx = s.tx := by simp only [State.recordFresh, State.setHeadTx_tx, State.setTxp_tx]
@[simp] theorem State.recordFresh_ctl (s : State) (p : Prio) (e : TxEntry) : (s.recordFresh p e).ctl = s.ctl := by simp only [State.recordFresh, State.setHeadTx_ctl, State.setTxp_ctl]
@[simp] theorem State.recordFresh_env (s : State) (p : Prio) (e : TxEntry) : (s.recordFresh p e).env = s.env := by simp only [State.recordFresh, State.setHeadTx_env, State.setTxp_env]
@[simp] theorem State.recordFresh_rxp (s : State) (p : Prio) (e : TxEntry) (y : Prio) : (s.recordFresh p e).rxp y = s.rxp y := by simp only [State.rxp, State.recordFresh_rxPrio]

/-! ### preempt -/

@[simp] theorem State.preempt_params (s : State) (e : TxEntry) : (s.preempt e).params = s.params := by simp only [State.preempt, State.setHeadTx_params, State.setTxp_params]
@[simp] theorem State.preempt_rx (s : State) (e : TxEntry) : (s.preempt e).rx = s.rx := by simp only [State.preempt, State.setHeadTx_rx, State.setTxp_rx]
@[simp] theorem State.preempt_rxPrio (s : State) (e : TxEntry) : (s.preempt e).rxPrio = s.rxPrio := by simp only [State.preempt, State.setHeadTx_rxPrio, State.setTxp_rxPrio]
@[simp] theorem State.preempt_tx (s : State) (e : TxEntry) : (s.preempt e).tx = s.tx := by simp only [State.preempt, State.setHeadTx_tx, State.setTxp_tx]
@[simp] theorem State.preempt_ctl (s : State) (e : TxEntry) : (s.preempt e).ctl = s.ctl := by simp only [State.preempt, State.setHeadTx_ctl, State.setTxp_ctl]
@[simp] theorem State.preempt_env (s : State) (e : TxEntry) : (s.preempt e).env = s.env := by simp only [State.preempt, State.setHeadTx_env, State.setTxp_env]
@[simp] theorem State.preempt_rxp (s : State) (e : TxEntry) (y : Prio) : (s.preempt e).rxp y = s.rxp y := by simp only [State.rxp, State.preempt_rxPrio]

/-! ### account -/

@[simp] theorem State.account_params (s : State) (p : Prio) (e : TxEntry) : (s.account p e).params = s.params := by unfold State.account; dsimp only; split <;> rfl
@[simp] theorem State.account_rx (s : State) (p : Prio) (e : TxEntry) : (s.account p e).rx = s.rx := by unfold State.account; dsimp only; split <;> rfl
@[simp] theorem State.account_rxPrio (s : State) (p : Prio) (e : TxEntry) : (s.account p e).rxPrio = s.rxPrio := by unfold State.account; dsimp only; split <;> rfl
@[simp] theorem State.account_tx (s : State) (p : Prio) (e : TxEntry) : (s.account p e).tx = s.tx := by unfold State.account; dsimp only; split <;> rfl
@[simp] theorem State.account_ctl (s : State) (p : Prio) (e : TxEntry) : (s.account p e).ctl = s.ctl := by unfold State.account; dsimp only; split <;> rfl
@[simp] theorem State.account_env (s : State) (p : Prio) (e : TxEntry) : (s.account p e).env = s.env := by unfold State.account; dsimp only; split <;> rfl
@[simp] theorem State.account_rxp (s : State) (p : Prio) (e : TxEntry) (y : Prio) : (s.account p e).rxp y = s.rxp y := by simp only [State.rxp, State.account_rxPrio]

/-! ### complete -/

@[simp] theorem State.complete_params (s : State) (e : TxEntry) : (s.complete e).params = s.params := by unfold State.complete; dsimp only; split <;> simp
@[simp] theorem State.complete_rx (s : State) (e : TxEntry) : (s.complete e).rx = s.rx := by unfold State.complete; dsimp only; split <;> simp
@[simp] theorem State.complete_rxPrio (s : State) (e : TxEntry) : (s.complete e).rxPrio = s.rxPrio := by unfold State.complete; dsimp only; split <;> simp
@[simp] theorem State.complete_tx (s : State) (e : TxEntry) : (s.complete e).tx = s.tx := by unfold State.complete; dsimp only; split <;> simp
@[simp] theorem State.complete_ctl (s : State) (e : TxEntry) : (s.complete e).ctl = s.ctl := by unfold State.complete; dsimp only; split <;> simp
@[simp] theorem State.complete_env (s : State) (e : TxEntry) : (s.complete e).env = s.env := by unfold State.complete; dsimp only; split <;> simp
@[simp] theorem State.complete_rxp (s : State) (e : TxEntry) (y : Prio) : (s.complete e).rxp y = s.rxp y := by simp only [State.rxp, State.complete_rxPrio]

/-! ### rxSoftReset -/

@[simp] theorem State.rxSoftReset_params (s : State) : (s.rxSoftReset).params = s.params := rfl
@[simp] theorem State.rxSoftReset_tx (s : State) : (s.rxSoftReset).tx = s.tx := rfl
@[simp] theorem State.rxSoftReset_txPrio (s : State) : (s.rxSoftReset).txPrio = s.txPrio := rfl
@[simp] theorem State.rxSoftReset_ctl (s : State) : (s.rxSoftReset).ctl = s.ctl := rfl
@[simp] theorem State.rxSoftReset_env (s : State) : (s.rxSoftReset).env = s.env := rfl
@[simp] theorem State.rxSoftReset_txp (s : State) (y : Prio) : (s.rxSoftReset).txp y = s.txp y := by simp only [State.txp, State.rxSoftReset_txPrio]

/-! ### txSoftReset -/

@[simp] theorem State.txSoftReset_params (s : State) : (s.txSoftReset).params = s.params := rfl
@[simp] theorem State.txSoftReset_rx (s : State) : (s.txSoftReset).rx = s.rx := rfl
@[simp] theorem State.txSoftReset_rxPrio (s : State) : (s.txSoftReset).rxPrio = s.rxPrio := rfl
@[simp] theorem State.txSoftReset_txPrio (s : State) : (s.txSoftReset).txPrio = s.txPrio := rfl
@[simp] theorem State.txSoftReset_env (s : State) : (s.txSoftReset).env = s.env := rfl
@[simp] theorem State.txSoftReset_rxp (s : State) (y : Prio) : (s.txSoftReset).rxp y = s.rxp y := by simp only [State.rxp, State.txSoftReset_rxPrio]
@[simp] theorem State.txSoftReset_txp (s : State) (y : Prio) : (s.txSoftReset).txp y = s.txp y := by simp only [State.txp, State.txSoftReset_txPrio]

/-! ### rxFlush -/

@[simp] theorem State.rxFlush_params (s : State) : (s.rxFlush).params = s.params := by simp only [State.rxFlush]
@[simp] theorem State.rxFlush_rx (s : State) : (s.rxFlush).rx = s.rx := by simp only [State.rxFlush]
@[simp] theorem State.rxFlush_tx (s : State) : (s.rxFlush).tx = s.tx := by simp only [State.rxFlush]
@[simp] theorem State.rxFlush_txPrio (s : State) : (s.rxFlush).txPrio = s.txPrio := by simp only [State.rxFlush]
@[simp] theorem State.rxFlush_ctl (s : State) : (s.rxFlush).ctl = s.ctl := by simp only [State.rxFlush]
@[simp] theorem State.rxFlush_env (s : State) : (s.rxFlush).env = s.env := by simp only [State.rxFlush]
@[simp] theorem State.rxFlush_txp (s : State) (y : Prio) : (s.rxFlush).txp y = s.txp y := by simp only [State.txp, State.rxFlush_txPrio]

/-! ### txFlush -/

@[simp] theorem State.txFlush_params (s : State) : (s.txFlush).params = s.params := rfl
@[simp] theorem State.txFlush_rx (s : State) : (s.txFlush).rx = s.rx := rfl
@[simp] theorem State.txFlush_rxPrio (s : State) : (s.txFlush).rxPrio = s.rxPrio := rfl
@[simp] theorem State.txFlush_env (s : State) : (s.txFlush).env = s.env := rfl
@[simp] theorem State.txFlush_rxp (s : State) (y : Prio) : (s.txFlush).rxp y = s.rxp y := by simp only [State.rxp, State.txFlush_rxPrio]

/-! ### statsClear -/

@[simp] theorem State.statsClear_params (s : State) : (s.statsClear).params = s.params := rfl
@[simp] theorem State.statsClear_rxPrio (s : State) : (s.statsClear).rxPrio = s.rxPrio := rfl
@[simp] theorem State.statsClear_tx (s : State) : (s.statsClear).tx = s.tx := rfl
@[simp] theorem State.statsClear_ctl (s : State) : (s.statsClear).ctl = s.ctl := rfl
@[simp] theorem State.statsClear_env (s : State) : (s.statsClear).env = s.env := rfl
@[simp] theorem State.statsClear_rxp (s : State) (y : Prio) : (s.statsClear).rxp y = s.rxp y := by simp only [State.rxp, State.statsClear_rxPrio]

/-! ### raise -/

@[simp] theorem State.raise_params (s : State) (ev : ErrorEvent) : (s.raise ev).params = s.params := by cases ev <;> rfl
@[simp] theorem State.raise_rxPrio (s : State) (ev : ErrorEvent) : (s.raise ev).rxPrio = s.rxPrio := by cases ev <;> rfl
@[simp] theorem State.raise_txPrio (s : State) (ev : ErrorEvent) : (s.raise ev).txPrio = s.txPrio := by cases ev <;> rfl
@[simp] theorem State.raise_env (s : State) (ev : ErrorEvent) : (s.raise ev).env = s.env := by cases ev <;> rfl
@[simp] theorem State.raise_rxp (s : State) (ev : ErrorEvent) (q : Prio) : (s.raise ev).rxp q = s.rxp q := by simp only [State.rxp, State.raise_rxPrio]
@[simp] theorem State.raise_txp (s : State) (ev : ErrorEvent) (q : Prio) : (s.raise ev).txp q = s.txp q := by simp only [State.txp, State.raise_txPrio]
@[simp] theorem State.raise_discard_tx (s : State) (c : Byte) : (s.raise (.discard c)).tx = s.tx := rfl
@[simp] theorem State.raise_discard_ctl (s : State) (c : Byte) : (s.raise (.discard c)).ctl = s.ctl := rfl
@[simp] theorem State.raise_fatal_rx (s : State) : (s.raise (.fatal)).rx = s.rx := rfl
@[simp] theorem State.raise_busError_rx (s : State) : (s.raise (.busError)).rx = s.rx := rfl
@[simp] theorem State.raise_busError_tx (s : State) : (s.raise (.busError)).tx = s.tx := rfl
@[simp] theorem State.raise_hostError_rx (s : State) (h : BitVec 2) : (s.raise (.hostError h)).rx = s.rx := rfl
@[simp] theorem State.raise_hostError_tx (s : State) (h : BitVec 2) : (s.raise (.hostError h)).tx = s.tx := rfl

/-! ### Updates that write one record: the fields they write -/

@[simp] theorem State.readDone_env (s : State) (v : W64) : (s.readDone v).env = { s.env with readData := v } := rfl
@[simp] theorem State.writeDone_env (s : State) : s.writeDone.env = { s.env with readData := 0 } := rfl
@[simp] theorem State.latch_env (s : State) (r : List Event) (n : W64) (ws : List Nat) : (s.latch r n ws).env = { s.env with pending := r, now := n, answers := ws } := rfl
@[simp] theorem State.setTaken_env (s : State) (b : Bool) : (s.setTaken b).env = { s.env with rxTaken := b } := rfl
@[simp] theorem State.offer_env (s : State) (bs : List Byte) : (s.offer bs).env = { s.env with answers := s.env.answers.tail, linkOut := s.env.linkOut ++ bs.take (s.answer bs.length) } := rfl
@[simp] theorem State.toDState_rx (s : State) (d : DState) : (s.toDState d).rx = { s.rx with dstate := d } := rfl
@[simp] theorem State.startHeader_rx (s : State) (xs : List Byte) : (s.startHeader xs).rx = { s.rx with hdrBuf := putBytes s.rx.hdrBuf 0 xs, hdrCnt := BitVec.ofNat 4 xs.length, dstate := .readingHeader } := rfl
@[simp] theorem State.interrupt_rx (s : State) (xs : List Byte) : (s.interrupt xs).rx = (s.startHeader xs).rx := rfl
@[simp] theorem State.dropFrame_rx (s : State) (c : Byte) : (s.dropFrame c).rx = { s.rx with lastCause := c, discardCount := s.rx.discardCount + 1, dstate := .waitingForPacket } := rfl
@[simp] theorem State.raise_discard_rx (s : State) (c : Byte) : (s.raise (.discard c)).rx = { s.rx with lastCause := c, discardCount := s.rx.discardCount + 1 } := rfl
@[simp] theorem State.raise_fatal_tx (s : State) : (s.raise .fatal).tx = { s.tx with fstate := .halted } := rfl
@[simp] theorem State.raise_fatal_ctl (s : State) : (s.raise .fatal).ctl = { s.ctl with fatal := true } := rfl
@[simp] theorem State.raise_busError_ctl (s : State) : (s.raise .busError).ctl = { s.ctl with busErr := true } := rfl
@[simp] theorem State.raise_hostError_ctl (s : State) (h : BitVec 2) : (s.raise (.hostError h)).ctl = { s.ctl with hostErr := true, hostErrCause := h } := rfl
@[simp] theorem State.endPacket_rx (s : State) : s.endPacket.rx = { s.rx with ftrPos := 0, dstate := .waitingForPacket } := rfl
@[simp] theorem State.beginFrame_tx (s : State) (p : Prio) : (s.beginFrame p).tx = { s.tx with txCur := p, hdrPos := 0, bpos := 0, escPending := false, burst := 0, fDone := false, fstate := .sendingHeaderBurst } := rfl
@[simp] theorem State.acceptContinuation_rx (s : State) (p : Prio) : (s.acceptContinuation p).rx = { s.rx with rxCur := p, curOff := (s.rxp p).brk, ftrPos := 0, dstate := if (s.rxp p).brk = (s.rxp p).slot.len then .readingFooter else .readingContent } := rfl
@[simp] theorem State.acceptFresh_rx (s : State) (p : Prio) (q : W64) (l : W16) (i a : Bool) : (s.acceptFresh p q l i a).rx = { s.rx with rxCur := p, curOff := 0, ftrPos := 0, dstate := if l = 0 then .readingFooter else .readingContent } := rfl
@[simp] theorem State.rxSoftReset_rx (s : State) : s.rxSoftReset.rx = { s.rx with dstate := .waitingForPacket, hdrCnt := 0, hdrBuf := Vector.replicate 13 0, ftrPos := 0, ftrBuf := Vector.replicate 4 0, rxCur := 0, curOff := 0 } := rfl
@[simp] theorem State.txSoftReset_tx (s : State) : s.txSoftReset.tx = { fstate := .gettingNextPacket, txCur := 0, hdrPos := 0, bpos := 0, escPending := false, burst := 0, waitUntil := 0, fDone := false } := rfl
@[simp] theorem State.txFlush_tx (s : State) : s.txFlush.tx = { fstate := .gettingNextPacket, txCur := 0, hdrPos := 0, bpos := 0, escPending := false, burst := 0, waitUntil := 0, fDone := false } := rfl
@[simp] theorem State.txSoftReset_ctl (s : State) : s.txSoftReset.ctl = { s.ctl with fatal := false } := rfl
@[simp] theorem State.txFlush_ctl (s : State) : s.txFlush.ctl = { s.ctl with fatal := false } := rfl
@[simp] theorem State.statsClear_rx (s : State) : s.statsClear.rx = { s.rx with discardCount := 0, lastCause := 0 } := rfl

end Sys2Proof.Machine
end

