-- ==== Sys2Proof/Laws/Bank.lean ====
section
/-! SUPPORT. Reads after writes of the per-priority items, and what each named update does to the copy of every priority. -/

namespace Sys2Proof.Machine

@[simp] theorem bankGet_bankSet_self {α : Type} (v : Bank α) (p : Prio) (x : α) : bankGet (bankSet v p x) p = x := by
  simp [bankGet, bankSet]

theorem bankGet_bankSet_ne {α : Type} (v : Bank α) (p q : Prio) (x : α) (h : q ≠ p) :
    bankGet (bankSet v p x) q = bankGet v q := by
  have : p.toNat ≠ q.toNat := fun e => h (BitVec.eq_of_toNat_eq e.symm)
  simp [bankGet, bankSet, this]

@[simp] theorem bankGet_bankMap {α : Type} (f : α → α) (v : Bank α) (p : Prio) :
    bankGet (bankMap f v) p = f (bankGet v p) := by
  simp [bankGet, bankMap, Vector.get, Vector.getElem_ofFn]

@[simp] theorem bankGet_replicate {α : Type} (x : α) (p : Prio) : bankGet (Vector.replicate 16 x) p = x := by
  simp [bankGet]

/-- Two banks with the same copy for every priority are equal. -/
theorem bank_ext {α : Type} (v w : Bank α) (h : ∀ p, bankGet v p = bankGet w p) : v = w := by
  apply Vector.ext
  intro i hi
  have := h (BitVec.ofNat 4 i)
  simp only [bankGet, BitVec.toNat_ofNat] at this
  have e : i % 2 ^ 4 = i := Nat.mod_eq_of_lt hi
  simpa only [e] using this

@[simp] theorem State.setRxp_rxp_self (s : State) (p : Prio) (x : RxPrio) : (s.setRxp p x).rxp p = x := by
  simp [State.setRxp, State.rxp]

theorem State.setRxp_rxp_ne (s : State) (p q : Prio) (x : RxPrio) (h : q ≠ p) : (s.setRxp p x).rxp q = s.rxp q :=
  bankGet_bankSet_ne _ _ _ _ h

theorem State.setRxp_rxp (s : State) (p q : Prio) (x : RxPrio) :
    (s.setRxp p x).rxp q = if q = p then x else s.rxp q := by
  by_cases h : q = p
  · subst h; simp
  · simp [h, State.setRxp_rxp_ne]

@[simp] theorem State.setTxp_txp_self (s : State) (p : Prio) (x : TxPrio) : (s.setTxp p x).txp p = x := by
  simp [State.setTxp, State.txp]

theorem State.setTxp_txp_ne (s : State) (p q : Prio) (x : TxPrio) (h : q ≠ p) : (s.setTxp p x).txp q = s.txp q :=
  bankGet_bankSet_ne _ _ _ _ h

theorem State.setTxp_txp (s : State) (p q : Prio) (x : TxPrio) :
    (s.setTxp p x).txp q = if q = p then x else s.txp q := by
  by_cases h : q = p
  · subst h; simp
  · simp [h, State.setTxp_txp_ne]

/-- The copies depend on the banks only. -/
theorem State.rxp_congr {s t : State} (h : t.rxPrio = s.rxPrio) (p : Prio) : t.rxp p = s.rxp p := by
  simp [State.rxp, h]

/-- The copies depend on the banks only. -/
theorem State.txp_congr {s t : State} (h : t.txPrio = s.txPrio) (p : Prio) : t.txp p = s.txp p := by
  simp [State.txp, h]

@[simp] theorem State.mk_rxp (P : Params) (rx : Deframer) (rp : Bank RxPrio) (tx : Framer) (tp : Bank TxPrio) (c : Control)
    (e : Env) (p : Prio) : (State.mk P rx rp tx tp c e).rxp p = bankGet rp p := rfl
@[simp] theorem State.mk_txp (P : Params) (rx : Deframer) (rp : Bank RxPrio) (tx : Framer) (tp : Bank TxPrio) (c : Control)
    (e : Env) (p : Prio) : (State.mk P rx rp tx tp c e).txp p = bankGet tp p := rfl
@[simp] theorem bankGet_rxPrio (s : State) (p : Prio) : bankGet s.rxPrio p = s.rxp p := rfl
@[simp] theorem bankGet_txPrio (s : State) (p : Prio) : bankGet s.txPrio p = s.txp p := rfl
@[simp] theorem bankSet_rxPrio (s : State) (p : Prio) (x : RxPrio) : bankSet s.rxPrio p x = (s.setRxp p x).rxPrio := rfl
@[simp] theorem bankSet_txPrio (s : State) (p : Prio) (x : TxPrio) : bankSet s.txPrio p x = (s.setTxp p x).txPrio := rfl

@[simp] theorem State.rxSoftReset_rxp (s : State) (p : Prio) :
    (s.rxSoftReset).rxp p = { s.rxp p with active := false, brk := 0 } := by
  simp only [State.rxSoftReset, State.rxp, bankGet_bankMap]

@[simp] theorem State.rxFlush_rxp (s : State) (p : Prio) : (s.rxFlush).rxp p = { s.rxp p with queue := [] } := by
  simp only [State.rxFlush, State.rxp, bankGet_bankMap]

@[simp] theorem State.txFlush_txp (s : State) (p : Prio) : (s.txFlush).txp p = { s.txp p with queue := [] } := by
  simp only [State.txFlush, State.txSoftReset, State.txp, bankGet_bankMap]

@[simp] theorem State.statsClear_txp (s : State) (p : Prio) :
    (s.statsClear).txp p =
      { s.txp p with sent := 0, retx := 0, reliable := 0, latency := 0, latPerByte := 0 } := by
  simp only [State.statsClear, State.txp, bankGet_bankMap]

/-- `push` on the RX side changes the queue of one priority, by one entry at its end (spec/20_memory.md R73). -/
theorem State.pushRx_rxp (s : State) (p q : Prio) (e : RxEntry) :
    (s.pushRx p e).rxp q = if q = p then { s.rxp p with queue := (s.rxp p).queue ++ [e] } else s.rxp q :=
  State.setRxp_rxp _ _ _ _

/-- `pop` on the RX side removes the oldest entry of one priority (R73). -/
theorem State.popRx_rxp (s : State) (p q : Prio) :
    (s.popRx p).rxp q = if q = p then { s.rxp p with queue := (s.rxp p).queue.tail } else s.rxp q :=
  State.setRxp_rxp _ _ _ _

/-- `push` on the TX side (R73). -/
theorem State.pushTx_txp (s : State) (p q : Prio) (e : TxEntry) :
    (s.pushTx p e).txp q = if q = p then { s.txp p with queue := (s.txp p).queue ++ [e] } else s.txp q :=
  State.setTxp_txp _ _ _ _

/-- `pop` on the TX side (R73). -/
theorem State.popTx_txp (s : State) (p q : Prio) :
    (s.popTx p).txp q = if q = p then { s.txp p with queue := (s.txp p).queue.tail } else s.txp q :=
  State.setTxp_txp _ _ _ _

/-- The head rewrite changes the oldest entry of one priority (spec/10_state.md R38). -/
theorem State.setHeadTx_txp (s : State) (p q : Prio) (e : TxEntry) :
    (s.setHeadTx p e).txp q =
      if q = p then { s.txp p with queue := match (s.txp p).queue with | [] => [] | _ :: r => e :: r } else s.txp q :=
  State.setTxp_txp _ _ _ _

/-- `head` after a head rewrite. -/
theorem State.setHeadTx_headTx? (s : State) (p : Prio) (e d : TxEntry) (h : s.headTx? p = some d) :
    (s.setHeadTx p e).headTx? p = some e := by
  unfold State.headTx? at *
  rw [State.setHeadTx_txp]
  cases hq : (s.txp p).queue with
  | nil => simp [hq] at h
  | cons a r => simp

end Sys2Proof.Machine
end

