-- ==== Sys2Proof/Laws/Decode.lean ====
section
/-! SUPPORT. The fields of an operation word and of a register offset, read back from the word or offset built from them. -/

namespace Sys2Proof

/-- A concatenation as a number. -/
theorem append_toNat {m n : Nat} (x : BitVec m) (y : BitVec n) : (x ++ y).toNat = x.toNat * 2 ^ n + y.toNat := by
  rw [BitVec.toNat_append, ← Nat.shiftLeft_add_eq_or_of_lt y.isLt, Nat.shiftLeft_eq]

theorem dfbWord_toNat (d : BitVec 3) (b : Byte) : (dfbWord d b).toNat = d.toNat * 256 + b.toNat := append_toNat d b

theorem hbusWord_toNat (we : Bool) (a : Addr) (v : W64) :
    (hbusWord we a v).toNat = (we.toNat * 2 ^ 18 + a.toNat) * 2 ^ 64 + v.toNat := by
  have h : (hbusWord we a v).toNat = (BitVec.ofBool we ++ a).toNat * 2 ^ 64 + v.toNat := append_toNat _ _
  rw [h, append_toNat]; cases we <;> rfl

@[simp] theorem dfbState_dfbWord (d : BitVec 3) (b : Byte) : dfbState (dfbWord d b) = d := by
  apply BitVec.eq_of_toNat_eq
  have := d.isLt; have := b.isLt
  simp only [dfbState, BitVec.extractLsb'_toNat, dfbWord_toNat, Nat.shiftRight_eq_div_pow]
  omega

@[simp] theorem dfbByte_dfbWord (d : BitVec 3) (b : Byte) : dfbByte (dfbWord d b) = b := by
  apply BitVec.eq_of_toNat_eq
  have := d.isLt; have := b.isLt
  simp only [dfbByte, BitVec.extractLsb'_toNat, dfbWord_toNat, Nat.shiftRight_eq_div_pow]
  omega

/-- A deframer word is its two fields. -/
theorem dfbWord_fields (w : BitVec 11) : dfbWord (dfbState w) (dfbByte w) = w := by
  apply BitVec.eq_of_toNat_eq
  have := w.isLt
  simp only [dfbWord_toNat, dfbState, dfbByte, BitVec.extractLsb'_toNat, Nat.shiftRight_eq_div_pow]
  omega

@[simp] theorem hbusWe_hbusWord (we : Bool) (a : Addr) (v : W64) : hbusWe (hbusWord we a v) = we := by
  have := a.isLt; have := v.isLt
  simp only [hbusWe, BitVec.getLsbD, hbusWord_toNat, Nat.testBit_eq_decide_div_mod_eq]
  cases we <;> simp only [Bool.toNat_true, Bool.toNat_false, decide_eq_true_eq, decide_eq_false_iff_not] <;> omega

@[simp] theorem hbusAddr_hbusWord (we : Bool) (a : Addr) (v : W64) : hbusAddr (hbusWord we a v) = a := by
  apply BitVec.eq_of_toNat_eq
  have := a.isLt; have := v.isLt
  simp only [hbusAddr, BitVec.extractLsb'_toNat, hbusWord_toNat, Nat.shiftRight_eq_div_pow]
  cases we <;> simp only [Bool.toNat_true, Bool.toNat_false] <;> omega

@[simp] theorem hbusData_hbusWord (we : Bool) (a : Addr) (v : W64) : hbusData (hbusWord we a v) = v := by
  apply BitVec.eq_of_toNat_eq
  have := a.isLt; have := v.isLt
  simp only [hbusData, BitVec.extractLsb'_toNat, hbusWord_toNat, Nat.shiftRight_eq_div_pow]
  omega

/-- A host word is its three fields. -/
theorem hbusWord_fields (w : BitVec 83) : hbusWord (hbusWe w) (hbusAddr w) (hbusData w) = w := by
  apply BitVec.eq_of_toNat_eq
  have := w.isLt
  simp only [hbusWord_toNat, hbusWe, hbusAddr, hbusData, BitVec.extractLsb'_toNat, Nat.shiftRight_eq_div_pow,
    BitVec.getLsbD, Nat.testBit_eq_decide_div_mod_eq]
  by_cases h : w.toNat / 2 ^ 82 % 2 = 1 <;> simp only [h, decide_true, decide_false, Bool.toNat_true, Bool.toNat_false] <;> omega

/-! ### Register offsets -/

@[simp] theorem blockAddr_align (p : Prio) (k : BitVec 4) : (blockAddr p k).extractLsb' 0 3 = 0#3 := by
  revert p k; decide
@[simp] theorem blockAddr_base (p : Prio) (k : BitVec 4) : (blockAddr p k).extractLsb' 11 7 = 1#7 := by
  revert p k; decide
@[simp] theorem blockAddr_prio (p : Prio) (k : BitVec 4) : (blockAddr p k).extractLsb' 7 4 = p := by
  revert p k; decide
@[simp] theorem blockAddr_reg (p : Prio) (k : BitVec 4) : (blockAddr p k).extractLsb' 3 4 = k := by
  revert p k; decide

/-- The offset of a block register as spec/10_state.md R51 writes it. -/
theorem blockAddr_toNat (p : Prio) (k : BitVec 4) : (blockAddr p k).toNat = 0x800 + 0x80 * p.toNat + 8 * k.toNat := by
  revert p k; decide

/-- The offset of a content register as spec/10_state.md R52 writes it. -/
theorem contentAddr_toNat (w : BitVec 2) (i : BitVec 13) :
    (contentAddr w i).toNat = 0x10000 * w.toNat + 8 * i.toNat := by
  have h : (contentAddr w i).toNat = (w ++ i).toNat * 2 ^ 3 + (0#3).toNat := append_toNat _ _
  rw [h, append_toNat]; simp only [BitVec.toNat_ofNat]; omega

@[simp] theorem contentAddr_align (w : BitVec 2) (i : BitVec 13) : (contentAddr w i).extractLsb' 0 3 = 0#3 := by
  apply BitVec.eq_of_toNat_eq
  simp only [BitVec.extractLsb'_toNat, contentAddr_toNat, Nat.shiftRight_eq_div_pow, BitVec.toNat_ofNat]
  omega

@[simp] theorem contentAddr_window (w : BitVec 2) (i : BitVec 13) : (contentAddr w i).extractLsb' 16 2 = w := by
  apply BitVec.eq_of_toNat_eq
  have := w.isLt; have := i.isLt
  simp only [BitVec.extractLsb'_toNat, contentAddr_toNat, Nat.shiftRight_eq_div_pow]
  omega

@[simp] theorem contentAddr_index (w : BitVec 2) (i : BitVec 13) : (contentAddr w i).extractLsb' 3 13 = i := by
  apply BitVec.eq_of_toNat_eq
  have := w.isLt; have := i.isLt
  simp only [BitVec.extractLsb'_toNat, contentAddr_toNat, Nat.shiftRight_eq_div_pow]
  omega

/-- A content register's offset is outside the per-priority blocks. -/
theorem contentAddr_not_block (w : BitVec 2) (i : BitVec 13) (h : w ≠ 0) : (contentAddr w i).extractLsb' 11 7 ≠ 1#7 := by
  intro e
  have e' := congrArg BitVec.toNat e
  have := w.isLt; have := i.isLt
  have hw : w.toNat ≠ 0 := fun z => h (BitVec.eq_of_toNat_eq z)
  simp only [BitVec.extractLsb'_toNat, contentAddr_toNat, Nat.shiftRight_eq_div_pow, BitVec.toNat_ofNat] at e'
  omega

end Sys2Proof
end

