-- ==== Sys2Proof/Laws/Memory.lean ====
section
/-! SUPPORT. Slot content: a read after a write, and the canonical form that every memory operation keeps. -/

namespace Sys2Proof.Machine

@[simp] theorem Memory.read?_nil (i : Nat) : Memory.read? [] i = none := rfl

/-- A read of the offset written gives the byte written; every other offset reads as before. -/
theorem Memory.read?_write (m : Memory) (i j : Nat) (x : Byte) :
    Memory.read? (Memory.write m i x) j = if j = i then some x else Memory.read? m j := by
  induction m with
  | nil =>
    by_cases h : j = i
    · subst h; simp [Memory.write, Memory.read?]
    · have h' : i ≠ j := fun e => h e.symm
      simp [Memory.write, Memory.read?, h, h']
  | cons c m ih =>
    obtain ⟨a, y⟩ := c
    simp only [Memory.write]
    by_cases h1 : i < a
    · simp only [h1, if_true, Memory.read?]
      by_cases h : j = i
      · subst h; simp
      · have h' : i ≠ j := fun e => h e.symm
        simp [h, h']
    · by_cases h2 : i = a
      · subst h2
        by_cases h : j = i
        · subst h; simp [Memory.read?]
        · have h' : i ≠ j := fun e => h e.symm
          simp [Memory.read?, h, h']
      · simp only [h1, h2, if_false, Memory.read?, ih]
        by_cases h : j = i
        · subst h; simp; intro e; exact absurd e.symm h2
        · simp [h]

@[simp] theorem Memory.read?_write_self (m : Memory) (i : Nat) (x : Byte) : Memory.read? (Memory.write m i x) i = some x := by
  simp [Memory.read?_write]

theorem Memory.read?_write_ne (m : Memory) (i j : Nat) (x : Byte) (h : j ≠ i) :
    Memory.read? (Memory.write m i x) j = Memory.read? m j := by
  simp [Memory.read?_write, h]

theorem Memory.wfFrom_write (m : Memory) (i : Nat) (x : Byte) :
    ∀ lo : Option Nat, (∀ l, lo = some l → l < i) → Memory.wfFrom lo m = true → Memory.wfFrom lo (Memory.write m i x) = true := by
  induction m with
  | nil => intro lo hl _; cases lo <;> simp_all [Memory.write, Memory.wfFrom]
  | cons c m ih =>
    obtain ⟨a, y⟩ := c
    intro lo hl h
    have hm : Memory.wfFrom (some a) m = true := by
      cases lo <;> simp_all [Memory.wfFrom]
    have ha : ∀ l, lo = some l → l < a := by
      intro l e; subst e; simp only [Memory.wfFrom, Bool.and_eq_true, decide_eq_true_eq] at h; exact h.1
    simp only [Memory.write]
    split
    · rename_i h1
      cases lo <;> simp_all [Memory.wfFrom]
    · split
      · rename_i h2; subst h2
        cases lo <;> simp_all [Memory.wfFrom]
      · have := ih (some a) (by intro l e; injection e with e; omega) hm
        cases lo <;> simp_all [Memory.wfFrom]

/-- A write keeps the canonical form. -/
theorem Memory.wf_write (m : Memory) (i : Nat) (x : Byte) (h : Memory.wf m = true) : Memory.wf (Memory.write m i x) = true :=
  Memory.wfFrom_write m i x none (by intro l e; cases e) h

/-- A write adds no cell but the one written. -/
theorem Memory.mem_write (m : Memory) (i : Nat) (x : Byte) (c : Host.Cell) (h : c ∈ Memory.write m i x) :
    c = (i, x) ∨ c ∈ m := by
  induction m with
  | nil => simpa [Memory.write] using h
  | cons d m ih =>
    obtain ⟨a, y⟩ := d
    simp only [Memory.write] at h
    split at h
    · simpa using h
    · split at h
      · rcases List.mem_cons.1 h with h | h
        · exact .inl h
        · exact .inr (List.mem_cons_of_mem _ h)
      · rcases List.mem_cons.1 h with h | h
        · exact .inr (by simp [h])
        · rcases ih h with h | h
          · exact .inl h
          · exact .inr (List.mem_cons_of_mem _ h)

@[simp] theorem Memory.Sound_nil (cap : Nat) : Memory.Sound cap [] := ⟨rfl, by simp⟩

/-- A write inside the content array keeps the content sound. -/
theorem Memory.Sound.write {cap : Nat} {m : Memory} (h : Memory.Sound cap m) {i : Nat} (hi : i < cap) (x : Byte) :
    Memory.Sound cap (Memory.write m i x) :=
  ⟨Memory.wf_write m i x h.1, fun c hc => by
    rcases Memory.mem_write m i x c hc with rfl | hc
    · exact hi
    · exact h.2 c hc⟩

@[simp] theorem Memory.WrittenBelow_zero (m : Memory) : Memory.WrittenBelow m 0 := fun _ h => absurd h (Nat.not_lt_zero _)

/-- A write keeps what has been written. -/
theorem Memory.WrittenBelow.write {m : Memory} {n : Nat} (h : Memory.WrittenBelow m n) (i : Nat) (x : Byte) :
    Memory.WrittenBelow (Memory.write m i x) n := fun j hj => by
  rw [Memory.read?_write]; split
  · simp
  · exact h j hj

/-- Writing the next offset extends what has been written. -/
theorem Memory.WrittenBelow.write_next {m : Memory} {n : Nat} (h : Memory.WrittenBelow m n) (x : Byte) :
    Memory.WrittenBelow (Memory.write m n x) (n + 1) := fun j hj => by
  rw [Memory.read?_write]; split
  · simp
  · exact h j (by omega)

/-- A byte that has been written is the byte the slot holds, whatever the free values are. -/
theorem State.contentByte_of_read (s : State) (side : Side) (p : Prio) (m : Memory) (i : Nat) (x : Byte)
    (h : Memory.read? m i = some x) : s.contentByte side p m i = x := by
  simp [State.contentByte, h]

@[simp] theorem State.contentBytes_length (s : State) (side : Side) (p : Prio) (m : Memory) (a n : Nat) :
    (s.contentBytes side p m a n).length = n := by
  simp [State.contentBytes]

theorem State.contentBytes_succ (s : State) (side : Side) (p : Prio) (m : Memory) (a n : Nat) :
    s.contentBytes side p m a (n + 1) = s.contentBytes side p m a n ++ [s.contentByte side p m (a + n)] := by
  simp [State.contentBytes, List.range_succ]

/-- Content bytes depend on the state only through the number of the last hard reset. -/
theorem State.contentBytes_congr {s t : State} (h : t.env.epoch = s.env.epoch) (side : Side) (p : Prio) (m : Memory)
    (a n : Nat) : t.contentBytes side p m a n = s.contentBytes side p m a n := by
  simp [State.contentBytes, State.contentByte, h]

/-- Content that agrees with a list at every offset below its length is that list. -/
theorem State.contentBytes_eq (s : State) (side : Side) (p : Prio) (m : Memory) (xs : List Byte)
    (h : ∀ i (hi : i < xs.length), Memory.read? m i = some xs[i]) : s.contentBytes side p m 0 xs.length = xs := by
  apply List.ext_getElem
  · simp
  · intro i h1 h2
    simp [State.contentBytes, State.contentByte, h i h2]

/-- The memory of the reset state is canonical: it lists nothing. -/
theorem State.reset_content_wf : ∀ p : Prio, Memory.wf (State.reset.rxp p).slot.content = true ∧
    Memory.wf (State.reset.txp p).slot.content = true := by decide

end Sys2Proof.Machine
end

