-- ==== Sys2Proof/Laws/Wire.lean ====
section
/-! SUPPORT. Lengths of the parts of a frame, the equations of stuffing and `Advance`, and the state codes. -/

namespace Sys2Proof.Machine

@[simp] theorem beBytes_length : ∀ k v, (beBytes k v).length = k
  | 0, _ => rfl
  | k + 1, v => by simp [beBytes, beBytes_length k]

theorem beVal_append (xs : List Byte) (b : Byte) : beVal (xs ++ [b]) = beVal xs * 256 + b.toNat := by simp [beVal]

@[simp] theorem headerBytes_length (S : Byte) (p : Prio) (seq : W64) (len : W16) (c i a : Bool) :
    (headerBytes S p seq len c i a).length = 13 := by simp [headerBytes]

@[simp] theorem footerBytes_length (c : W32) : (footerBytes c).length = 4 := by simp [footerBytes]

/-- `|Body| = e.len + 4` (spec/41_framer.md R204). -/
@[simp] theorem State.body_length (s : State) (p : Prio) (e : TxEntry) : (s.body p e).length = e.len.toNat + 4 := by
  simp [State.body, State.contentBytes]

/-- A body depends on the break of its priority and on the number of the last hard reset. -/
theorem State.body_congr {s t : State} (p : Prio) (e : TxEntry) (h : (t.txp p).brk = (s.txp p).brk)
    (he : t.env.epoch = s.env.epoch) : t.body p e = s.body p e := by
  simp [State.body, State.contentBytes, State.contentByte, h, he]

@[simp] theorem stuff_nil (S E : Byte) : stuff S E [] = [] := rfl
theorem stuff_cons_start (S E : Byte) (bs : List Byte) : stuff S E (S :: bs) = S :: E :: stuff S E bs := by simp [stuff]
theorem stuff_cons_other (S E b : Byte) (bs : List Byte) (h : b ≠ S) : stuff S E (b :: bs) = b :: stuff S E bs := by
  simp [stuff, h]

theorem stuff_length_le (S E : Byte) : ∀ bs : List Byte, bs.length ≤ (stuff S E bs).length
  | [] => Nat.le_refl _
  | b :: bs => by
    have := stuff_length_le S E bs
    simp only [stuff]; split <;> simp <;> omega

@[simp] theorem advance_zero (S : Byte) (body : List Byte) (b : W16) (e : Bool) : advance S body 0 b e = (b, e) := rfl

/-- `Advance` of a sum of writes is one `Advance` after the other (R204). -/
theorem advance_add (S : Byte) (body : List Byte) : ∀ (v w : Nat) (b : W16) (e : Bool),
    advance S body (v + w) b e = advance S body w (advance S body v b e).1 (advance S body v b e).2
  | 0, w, b, e => by simp
  | v + 1, w, b, e => by
    rw [Nat.add_right_comm]
    simp only [advance]
    split
    · exact advance_add S body v w _ _
    · split <;> exact advance_add S body v w _ _

@[simp] theorem dstateOfCode_code (d : DState) : dstateOfCode d.code = d := by cases d <;> rfl
@[simp] theorem code_dstateOfCode (c : BitVec 3) : (dstateOfCode c).code = c := by revert c; decide
@[simp] theorem fstateOfCode_code (f : FState) : fstateOfCode f.code = f := by cases f <;> rfl
@[simp] theorem code_fstateOfCode (c : BitVec 3) : (fstateOfCode c).code = c := by revert c; decide

/-- A byte put at an index that is in range. -/
theorem set_eq_setIfInBounds {α : Type} {n : Nat} (v : Vector α n) (i : Nat) (x : α) (h : i < n) :
    v.set i x h = v.setIfInBounds i x := by
  simp [Vector.setIfInBounds, Vector.set, Array.setIfInBounds, h]

end Sys2Proof.Machine
end

