-- ==== Sys2Proof/Laws/Ops.lean ====
section
/-! SUPPORT. What each shared operation of the deframer can do, said once. -/

namespace Sys2Proof.Machine

/-- `StoreContent` either stores in range or faults (spec/40_deframer.md R144). -/
theorem State.storeContent_cases (s : State) (c : Byte) :
    (s.rx.curOff.toNat < s.params.capacity ∧ ∃ t, s.storeContent c = .next t ∧
      t = { s.setRxp s.rx.rxCur { s.rxp s.rx.rxCur with slot := { (s.rxp s.rx.rxCur).slot with
              content := (s.rxp s.rx.rxCur).slot.content.write s.rx.curOff.toNat c } } with
            rx := { s.rx with
              curOff := s.rx.curOff + 1
              ftrPos := if s.rx.curOff + 1 = (s.rxp s.rx.rxCur).slot.len then 0 else s.rx.ftrPos
              dstate := if s.rx.curOff + 1 = (s.rxp s.rx.rxCur).slot.len then .readingFooter else .readingContent } }) ∨
    (s.params.capacity ≤ s.rx.curOff.toNat ∧ s.storeContent c = .fault .contentIndex) := by
  by_cases h : s.rx.curOff.toNat < s.params.capacity
  · refine .inl ⟨h, _, ?_, rfl⟩
    simp only [State.storeContent, if_pos h]
    by_cases h2 : s.rx.curOff + 1 = (s.rxp s.rx.rxCur).slot.len
    · simp only [if_pos h2]
    · simp only [if_neg h2]
  · exact .inr ⟨Nat.le_of_not_lt h, by simp only [State.storeContent, if_neg h]⟩

/-- `ProcessHeader` takes exactly one of five outcomes (R150). -/
theorem State.processHeader_cases (s : State) :
    let p : Prio := (hdrPrioByte s.rx.hdrBuf).setWidth 4
    let t : State := { s with rx := { s.rx with hdrCnt := 0 } }
    (s.params.nPrio ≤ (hdrPrioByte s.rx.hdrBuf).toNat ∧ s.processHeader = t.dropFrame causeBadPriority) ∨
    ((hdrPrioByte s.rx.hdrBuf).toNat < s.params.nPrio ∧ flagCont (hdrFlags s.rx.hdrBuf) = false ∧
      s.params.capacity < (hdrLength s.rx.hdrBuf).toNat ∧ s.processHeader = t.dropFrame causeBadLength) ∨
    ((hdrPrioByte s.rx.hdrBuf).toNat < s.params.nPrio ∧ flagCont (hdrFlags s.rx.hdrBuf) = false ∧
      (hdrLength s.rx.hdrBuf).toNat ≤ s.params.capacity ∧
      s.processHeader = t.acceptFresh p (hdrSeq s.rx.hdrBuf) (hdrLength s.rx.hdrBuf) (flagInit (hdrFlags s.rx.hdrBuf))
        (flagAck (hdrFlags s.rx.hdrBuf))) ∨
    ((hdrPrioByte s.rx.hdrBuf).toNat < s.params.nPrio ∧ flagCont (hdrFlags s.rx.hdrBuf) = true ∧
      ((s.rxp p).active = true ∧ hdrSeq s.rx.hdrBuf = (s.rxp p).slot.seq ∧
        hdrLength s.rx.hdrBuf = (s.rxp p).slot.len - (s.rxp p).brk) ∧ s.processHeader = t.acceptContinuation p) ∨
    ((hdrPrioByte s.rx.hdrBuf).toNat < s.params.nPrio ∧ flagCont (hdrFlags s.rx.hdrBuf) = true ∧
      ¬ ((s.rxp p).active = true ∧ hdrSeq s.rx.hdrBuf = (s.rxp p).slot.seq ∧
        hdrLength s.rx.hdrBuf = (s.rxp p).slot.len - (s.rxp p).brk) ∧
      s.processHeader = t.dropFrame causeContMismatch) := by
  intro p t
  by_cases h1 : s.params.nPrio ≤ (hdrPrioByte s.rx.hdrBuf).toNat
  · exact .inl ⟨h1, by unfold State.processHeader; rw [if_pos h1]⟩
  · have h1' := Nat.lt_of_not_le h1
    by_cases h2 : flagCont (hdrFlags s.rx.hdrBuf) = false
    · by_cases h3 : s.params.capacity < (hdrLength s.rx.hdrBuf).toNat
      · exact .inr (.inl ⟨h1', h2, h3, by unfold State.processHeader; rw [if_neg h1, if_pos ⟨h2, h3⟩]⟩)
      · exact .inr (.inr (.inl ⟨h1', h2, Nat.le_of_not_lt h3, by
          unfold State.processHeader; rw [if_neg h1, if_neg (fun z => h3 z.2), if_pos h2]⟩))
    · have h2' : flagCont (hdrFlags s.rx.hdrBuf) = true := by simpa using h2
      by_cases h4 : (s.rxp p).active = true ∧ hdrSeq s.rx.hdrBuf = (s.rxp p).slot.seq ∧
          hdrLength s.rx.hdrBuf = (s.rxp p).slot.len - (s.rxp p).brk
      · refine .inr (.inr (.inr (.inl ⟨h1', h2', h4, ?_⟩)))
        unfold State.processHeader
        rw [if_neg h1, if_neg (fun z => h2 z.1), if_neg h2]
        exact if_pos h4
      · refine .inr (.inr (.inr (.inr ⟨h1', h2', h4, ?_⟩)))
        unfold State.processHeader
        rw [if_neg h1, if_neg (fun z => h2 z.1), if_neg h2]
        exact if_neg h4

/-- A completed footer takes exactly one of four outcomes (R165 to R169). -/
theorem State.completeFooter_cases (s : State) :
    let p := s.rx.rxCur
    let t := (s.rxp p).slot
    let recv : W32 := BitVec.ofNat 32 (beVal s.rx.ftrBuf.toList)
    let content := s.contentBytes .rx p t.content 0 t.len.toNat
    let good := recv = packetSum s.params p t.seq t.len t.init t.ack content
    let wanted := accepts s.params.rxAccept (rxPacket p t recv content) = true
    (¬ good ∧ s.completeFooter = s.raise (.discard causeChecksumMismatch)) ∨
    (good ∧ ¬ wanted ∧ s.completeFooter = s.raise (.discard causeRxFiltered)) ∨
    (good ∧ wanted ∧ s.countRx p = s.params.qdepth ∧ s.completeFooter = s.raise (.discard causeRxQueueFull)) ∨
    (good ∧ wanted ∧ s.countRx p ≠ s.params.qdepth ∧
      s.completeFooter = s.pushRx p { seq := t.seq, len := t.len, init := t.init, ack := t.ack, csum := recv,
                                      commitTime := s.env.now, content := content }) := by
  intro p t recv content good wanted
  by_cases h1 : good
  · by_cases h2 : wanted
    · have h2' : ¬ accepts s.params.rxAccept (rxPacket p t recv content) = false := by
        intro z; exact Bool.noConfusion (z.symm.trans h2)
      by_cases h3 : s.countRx p = s.params.qdepth
      · refine .inr (.inr (.inl ⟨h1, h2, h3, ?_⟩))
        unfold State.completeFooter
        exact (if_neg (fun z => z h1)).trans ((if_neg h2').trans (if_pos h3))
      · refine .inr (.inr (.inr ⟨h1, h2, h3, ?_⟩))
        unfold State.completeFooter
        exact (if_neg (fun z => z h1)).trans ((if_neg h2').trans (if_neg h3))
    · refine .inr (.inl ⟨h1, h2, ?_⟩)
      unfold State.completeFooter
      exact (if_neg (fun z => z h1)).trans (if_pos (by simpa [wanted] using h2))
  · refine .inl ⟨h1, ?_⟩
    unfold State.completeFooter
    exact if_pos h1

/-- A completed footer leaves the deframer's registers but the record of a discard, and the copies but one queue. -/
theorem State.completeFooter_frame (s : State) :
    (s.completeFooter).params = s.params ∧ (s.completeFooter).tx = s.tx ∧ (s.completeFooter).txPrio = s.txPrio ∧
      (s.completeFooter).ctl = s.ctl ∧ (s.completeFooter).env = s.env ∧
      (s.completeFooter).rx = { s.rx with discardCount := (s.completeFooter).rx.discardCount,
                                          lastCause := (s.completeFooter).rx.lastCause } := by
  rcases s.completeFooter_cases with ⟨_, h⟩ | ⟨_, _, h⟩ | ⟨_, _, _, h⟩ | ⟨_, _, _, h⟩ <;> rw [h] <;>
    exact ⟨rfl, rfl, rfl, rfl, rfl, rfl⟩

/-- `StoreFooter` (R165): before the fourth byte, at the fourth, or a fault. -/
theorem State.storeFooter_cases (s : State) (c : Byte) :
    (s.rx.ftrPos.toNat < 3 ∧ s.storeFooter c = .next { s with rx := { s.rx with
      ftrBuf := s.rx.ftrBuf.setIfInBounds s.rx.ftrPos.toNat c, ftrPos := s.rx.ftrPos + 1, dstate := .readingFooter } }) ∨
    (s.rx.ftrPos = 3 ∧ s.storeFooter c = .next (State.endPacket (State.completeFooter { s with rx := { s.rx with
      ftrBuf := s.rx.ftrBuf.setIfInBounds 3 c, ftrPos := 4 } }))) ∨
    (4 ≤ s.rx.ftrPos.toNat ∧ s.storeFooter c = .fault .ftrIndex) := by
  by_cases h : s.rx.ftrPos.toNat < 4
  · by_cases h3 : s.rx.ftrPos.toNat < 3
    · refine .inl ⟨h3, ?_⟩
      have h2 : (s.rx.ftrPos + 1).toNat < 4 := by rw [BitVec.toNat_add]; simp; omega
      simp only [State.storeFooter, dif_pos h, if_pos h2, State.toDState, set_eq_setIfInBounds]
    · have e : s.rx.ftrPos = 3 := BitVec.eq_of_toNat_eq (by simp; omega)
      refine .inr (.inl ⟨e, ?_⟩)
      simp [State.storeFooter, e, set_eq_setIfInBounds]
  · exact .inr (.inr ⟨Nat.le_of_not_lt h, by simp only [State.storeFooter, dif_neg h]⟩)

/-- DF_RH_BYTE (R149): a byte stored, the header completed, or a fault. -/
theorem execDfRhByte_cases (b : Byte) (s : State) :
    (s.rx.hdrCnt.toNat < 12 ∧ execDfRhByte b s = .next { s with rx := { s.rx with
      hdrBuf := s.rx.hdrBuf.setIfInBounds s.rx.hdrCnt.toNat b, hdrCnt := s.rx.hdrCnt + 1 } }) ∨
    (s.rx.hdrCnt = 12 ∧ execDfRhByte b s = .next (State.processHeader { s with rx := { s.rx with
      hdrBuf := s.rx.hdrBuf.setIfInBounds 12 b, hdrCnt := 13 } })) ∨
    (13 ≤ s.rx.hdrCnt.toNat ∧ execDfRhByte b s = .fault .hdrIndex) := by
  by_cases h : s.rx.hdrCnt.toNat < 13
  · by_cases h2 : s.rx.hdrCnt.toNat < 12
    · refine .inl ⟨h2, ?_⟩
      have hn : ¬ s.rx.hdrCnt + 1 = 13#4 := by
        intro z; have := congrArg BitVec.toNat z; rw [BitVec.toNat_add] at this; simp at this; omega
      simp only [execDfRhByte, dif_pos h, if_neg hn, set_eq_setIfInBounds]
    · have e : s.rx.hdrCnt = 12 := BitVec.eq_of_toNat_eq (by simp; omega)
      refine .inr (.inl ⟨e, ?_⟩)
      simp [execDfRhByte, e, set_eq_setIfInBounds]
  · exact .inr (.inr ⟨Nat.le_of_not_lt h, by simp only [execDfRhByte, dif_neg h]⟩)

end Sys2Proof.Machine
end

