-- ==== Sys2Proof/Laws/PerInstr.lean ====
section
/-! SUPPORT. The per-instruction family FixedBits: the operation word of an instruction carries the fixed bits that its row of
spec/opcode_table.json gives it (`mask`, `match`; the masks are shown there for the default parameters). -/

namespace Sys2Proof.Laws.FixedBits

/-- The bits of a word selected by `mask` are those of `mtch`. -/
def fits (mask mtch : Nat) : OpWord → Prop
  | .dfb w => w &&& BitVec.ofNat 11 mask = BitVec.ofNat 11 mtch
  | .frt w => w &&& BitVec.ofNat 3 mask = BitVec.ofNat 3 mtch
  | .hbus w => w &&& BitVec.ofNat 83 mask = BitVec.ofNat 83 mtch

/-- The row's `mask` and `match`. -/
def row : Instr → Nat × Nat
  | .dfWfpStart => (0x7ff, 0x7e)
  | .dfWfpOther _ => (0x700, 0x0)
  | .dfRhStart => (0x7ff, 0x17e)
  | .dfRhEsc => (0x7ff, 0x17d)
  | .dfRhByte _ => (0x700, 0x100)
  | .dfRcStartLast => (0x7ff, 0x27e)
  | .dfRcStart => (0x7ff, 0x27e)
  | .dfRcByte _ => (0x700, 0x200)
  | .dfDstcEsc => (0x7ff, 0x37d)
  | .dfDstcStart => (0x7ff, 0x37e)
  | .dfDstcOther _ => (0x700, 0x300)
  | .dfRfStartLast => (0x7ff, 0x47e)
  | .dfRfStart => (0x7ff, 0x47e)
  | .dfRfByte _ => (0x700, 0x400)
  | .dfDstfEsc => (0x7ff, 0x57d)
  | .dfDstfStart => (0x7ff, 0x57e)
  | .dfDstfOther _ => (0x700, 0x500)
  | .dfReserved _ _ => (0x600, 0x600)
  | .frGnp => (0x7, 0x0)
  | .frShb => (0x7, 0x1)
  | .frWhbi => (0x7, 0x2)
  | .frSb => (0x7, 0x3)
  | .frWbi => (0x7, 0x4)
  | .frWpbi => (0x7, 0x5)
  | .frHalt => (0x7, 0x6)
  | .frReserved => (0x7, 0x7)
  | .frOff _ => (0x0, 0x0)
  | .hrParams => (0x7ffff0000000000000000, 0x0)
  | .hwParams _ => (0x7ffff0000000000000000, 0x400000000000000000000)
  | .hrCtrl => (0x7ffff0000000000000000, 0x80000000000000000)
  | .hwCtrl _ => (0x7ffff0000000000000000, 0x400080000000000000000)
  | .hrStatus => (0x7ffff0000000000000000, 0x100000000000000000)
  | .hwStatus _ => (0x7ffff0000000000000000, 0x400100000000000000000)
  | .hrCfgMaxBurst => (0x7ffff0000000000000000, 0x180000000000000000)
  | .hwCfgMaxBurst _ => (0x7ffff0000000000000000, 0x400180000000000000000)
  | .hrCfgMaxAtomic => (0x7ffff0000000000000000, 0x200000000000000000)
  | .hwCfgMaxAtomic _ => (0x7ffff0000000000000000, 0x400200000000000000000)
  | .hrCfgNsPerByte => (0x7ffff0000000000000000, 0x280000000000000000)
  | .hwCfgNsPerByte _ => (0x7ffff0000000000000000, 0x400280000000000000000)
  | .hrRxDiscardCount => (0x7ffff0000000000000000, 0x300000000000000000)
  | .hwRxDiscardCount _ => (0x7ffff0000000000000000, 0x400300000000000000000)
  | .hrTxWaitUntil => (0x7ffff0000000000000000, 0x380000000000000000)
  | .hwTxWaitUntil _ => (0x7ffff0000000000000000, 0x400380000000000000000)
  | .hrDbgRx => (0x7ffff0000000000000000, 0x400000000000000000)
  | .hwDbgRx _ => (0x7ffff0000000000000000, 0x400400000000000000000)
  | .hrDbgTx => (0x7ffff0000000000000000, 0x480000000000000000)
  | .hwDbgTx _ => (0x7ffff0000000000000000, 0x400480000000000000000)
  | .hrTxSel => (0x7ffff0000000000000000, 0x800000000000000000)
  | .hwTxSel _ => (0x7ffff0000000000000000, 0x400800000000000000000)
  | .hrTxSeq => (0x7ffff0000000000000000, 0x880000000000000000)
  | .hwTxSeq _ => (0x7ffff0000000000000000, 0x400880000000000000000)
  | .hrTxLen => (0x7ffff0000000000000000, 0x900000000000000000)
  | .hwTxLen _ => (0x7ffff0000000000000000, 0x400900000000000000000)
  | .hrTxFlags => (0x7ffff0000000000000000, 0x980000000000000000)
  | .hwTxFlags _ => (0x7ffff0000000000000000, 0x400980000000000000000)
  | .hrTxCommit => (0x7ffff0000000000000000, 0xa00000000000000000)
  | .hwTxCommit _ => (0x7ffff0000000000000000, 0x400a00000000000000000)
  | .hrTxCount => (0x7ffff0000000000000000, 0xa80000000000000000)
  | .hwTxCount _ => (0x7ffff0000000000000000, 0x400a80000000000000000)
  | .hrRxSel => (0x7ffff0000000000000000, 0xc00000000000000000)
  | .hwRxSel _ => (0x7ffff0000000000000000, 0x400c00000000000000000)
  | .hrRxCount => (0x7ffff0000000000000000, 0xc80000000000000000)
  | .hwRxCount _ => (0x7ffff0000000000000000, 0x400c80000000000000000)
  | .hrRxHeadSeq => (0x7ffff0000000000000000, 0xd00000000000000000)
  | .hwRxHeadSeq _ => (0x7ffff0000000000000000, 0x400d00000000000000000)
  | .hrRxHeadLen => (0x7ffff0000000000000000, 0xd80000000000000000)
  | .hwRxHeadLen _ => (0x7ffff0000000000000000, 0x400d80000000000000000)
  | .hrRxHeadFlags => (0x7ffff0000000000000000, 0xe00000000000000000)
  | .hwRxHeadFlags _ => (0x7ffff0000000000000000, 0x400e00000000000000000)
  | .hrRxHeadCsum => (0x7ffff0000000000000000, 0xe80000000000000000)
  | .hwRxHeadCsum _ => (0x7ffff0000000000000000, 0x400e80000000000000000)
  | .hrRxHeadTime => (0x7ffff0000000000000000, 0xf00000000000000000)
  | .hwRxHeadTime _ => (0x7ffff0000000000000000, 0x400f00000000000000000)
  | .hrRxConsume => (0x7ffff0000000000000000, 0xf80000000000000000)
  | .hwRxConsume _ => (0x7ffff0000000000000000, 0x400f80000000000000000)
  | .hrStatSent _ => (0x7fe7f0000000000000000, 0x8000000000000000000)
  | .hrStatRetx _ => (0x7fe7f0000000000000000, 0x8080000000000000000)
  | .hrStatReliable _ => (0x7fe7f0000000000000000, 0x8100000000000000000)
  | .hrStatLatency _ => (0x7fe7f0000000000000000, 0x8180000000000000000)
  | .hrStatLatPerByte _ => (0x7fe7f0000000000000000, 0x8200000000000000000)
  | .hrLastSeq _ => (0x7fe7f0000000000000000, 0x8280000000000000000)
  | .hrTxTotal _ => (0x7fe7f0000000000000000, 0x8300000000000000000)
  | .hrTxBreak _ => (0x7fe7f0000000000000000, 0x8380000000000000000)
  | .hrRxActive _ => (0x7fe7f0000000000000000, 0x8400000000000000000)
  | .hrRxBreak _ => (0x7fe7f0000000000000000, 0x8480000000000000000)
  | .hrRxSlotSeq _ => (0x7fe7f0000000000000000, 0x8500000000000000000)
  | .hrRxSlotLen _ => (0x7fe7f0000000000000000, 0x8580000000000000000)
  | .hwPrioBlock _ _ _ => (0x7fe070000000000000000, 0x408000000000000000000)
  | .hrTxContent _ => (0x7f8070000000000000000, 0x100000000000000000000)
  | .hwTxContent _ _ => (0x7f8070000000000000000, 0x500000000000000000000)
  | .hrRxContent _ => (0x7f8070000000000000000, 0x200000000000000000000)
  | .hwRxContent _ _ => (0x7f8070000000000000000, 0x600000000000000000000)
  | .hbErr _ _ _ => (0x0, 0x0)

/-- A well-formed instruction's word has its row's fixed bits. -/
def Statement (i : Instr) : Prop := wellFormed .default i = true → fits (row i).1 (row i).2 (encode .default i)

theorem dfb_fits (d : BitVec 3) (b : Byte) (c : Nat) (h : (d ++ 0#8 : BitVec 11) = BitVec.ofNat 11 c) :
    fits 0x700 c (.dfb (dfbWord d b)) := by
  have : dfbWord d b &&& BitVec.ofNat 11 0x700 = (d ++ 0#8 : BitVec 11) := by clear h; revert d b; decide
  exact this.trans h

theorem hbus_and (we : Bool) (a : Addr) (v : W64) (m : BitVec 19) :
    hbusWord we a v &&& (m ++ 0#64 : BitVec 83) = (((BitVec.ofBool we ++ a : BitVec 19) &&& m) ++ 0#64 : BitVec 83) :=
  (BitVec.and_append (x₁ := BitVec.ofBool we ++ a) (x₂ := m) (y₁ := v) (y₂ := 0#64)).trans (by rw [BitVec.and_zero])

/-- The data bits of a host word are free: its fixed bits are those of the direction and the offset. -/
theorem hbus_fits (we : Bool) (a : Addr) (v : W64) (m c : BitVec 19) (M C : Nat)
    (hM : BitVec.ofNat 83 M = (m ++ 0#64 : BitVec 83)) (hC : BitVec.ofNat 83 C = (c ++ 0#64 : BitVec 83))
    (h : (BitVec.ofBool we ++ a : BitVec 19) &&& m = c) : fits M C (.hbus (hbusWord we a v)) := by
  show hbusWord we a v &&& BitVec.ofNat 83 M = BitVec.ofNat 83 C
  rw [hM, hC, hbus_and, h]

theorem block_and (we : Bool) (k : BitVec 4) :
    ∀ p : Prio, p.toNat < 4 → (BitVec.ofBool we ++ blockAddr p k : BitVec 19) &&& 0x7fe7f#19 =
      (BitVec.ofBool we ++ blockAddr 0 k : BitVec 19) := by
  revert we k; decide

theorem block_write_and (p k : BitVec 4) (h : p.toNat < 4) :
    (BitVec.ofBool true ++ blockAddr p k : BitVec 19) &&& 0x7fe07#19 = 0x40800#19 := by
  revert p k; decide

theorem content_and (we : Bool) (w : BitVec 2) (i : BitVec 13) (h : i.toNat < 256) :
    (BitVec.ofBool we ++ contentAddr w i : BitVec 19) &&& 0x7f807#19 = (BitVec.ofBool we ++ contentAddr w 0 : BitVec 19) := by
  have e : i = (0#5 ++ i.setWidth 8 : BitVec 13) := by
    apply BitVec.eq_of_toNat_eq
    rw [append_toNat]; simp only [BitVec.toNat_setWidth, BitVec.toNat_ofNat]; omega
  rw [e]
  generalize i.setWidth 8 = j
  have low : ∀ (j : BitVec 8) (w : BitVec 2), contentAddr w (0#5 ++ j) &&& 0x3f807#18 = contentAddr w 0 := by decide
  have split : (0x7f807#19 : BitVec 19) = (1#1 ++ 0x3f807#18 : BitVec 19) := by decide
  rw [split, BitVec.and_append, low]
  congr 1
  cases we <;> rfl

theorem dfWfpStart : Statement .dfWfpStart := fun _ => rfl
theorem dfWfpOther (b : Byte) : Statement (.dfWfpOther b) := fun _ => dfb_fits 0#3 b 0x0 (by decide)
theorem dfRhStart : Statement .dfRhStart := fun _ => rfl
theorem dfRhEsc : Statement .dfRhEsc := fun _ => rfl
theorem dfRhByte (b : Byte) : Statement (.dfRhByte b) := fun _ => dfb_fits 1#3 b 0x100 (by decide)
theorem dfRcStartLast : Statement .dfRcStartLast := fun _ => rfl
theorem dfRcStart : Statement .dfRcStart := fun _ => rfl
theorem dfRcByte (b : Byte) : Statement (.dfRcByte b) := fun _ => dfb_fits 2#3 b 0x200 (by decide)
theorem dfDstcEsc : Statement .dfDstcEsc := fun _ => rfl
theorem dfDstcStart : Statement .dfDstcStart := fun _ => rfl
theorem dfDstcOther (b : Byte) : Statement (.dfDstcOther b) := fun _ => dfb_fits 3#3 b 0x300 (by decide)
theorem dfRfStartLast : Statement .dfRfStartLast := fun _ => rfl
theorem dfRfStart : Statement .dfRfStart := fun _ => rfl
theorem dfRfByte (b : Byte) : Statement (.dfRfByte b) := fun _ => dfb_fits 4#3 b 0x400 (by decide)
theorem dfDstfEsc : Statement .dfDstfEsc := fun _ => rfl
theorem dfDstfStart : Statement .dfDstfStart := fun _ => rfl
theorem dfDstfOther (b : Byte) : Statement (.dfDstfOther b) := fun _ => dfb_fits 5#3 b 0x500 (by decide)
theorem dfReserved (low : BitVec 1) (b : Byte) : Statement (.dfReserved low b) := by
  intro _
  show dfbWord (3#2 ++ low) b &&& BitVec.ofNat 11 0x600 = BitVec.ofNat 11 0x600
  revert low b; decide
theorem frGnp : Statement .frGnp := fun _ => rfl
theorem frShb : Statement .frShb := fun _ => rfl
theorem frWhbi : Statement .frWhbi := fun _ => rfl
theorem frSb : Statement .frSb := fun _ => rfl
theorem frWbi : Statement .frWbi := fun _ => rfl
theorem frWpbi : Statement .frWpbi := fun _ => rfl
theorem frHalt : Statement .frHalt := fun _ => rfl
theorem frReserved : Statement .frReserved := fun _ => rfl
theorem frOff (f : BitVec 3) : Statement (.frOff f) := fun _ => (BitVec.and_zero : f &&& 0#3 = 0#3)
theorem hrParams : Statement .hrParams := fun _ =>
  hbus_fits _ _ _ 0x7ffff#19 0x0#19 0x7ffff0000000000000000 0x0 (by decide) (by decide) (by decide)
theorem hwParams (v : W64) : Statement (.hwParams v) := fun _ =>
  hbus_fits _ _ _ 0x7ffff#19 0x40000#19 0x7ffff0000000000000000 0x400000000000000000000 (by decide) (by decide) (by decide)
theorem hrCtrl : Statement .hrCtrl := fun _ =>
  hbus_fits _ _ _ 0x7ffff#19 0x8#19 0x7ffff0000000000000000 0x80000000000000000 (by decide) (by decide) (by decide)
theorem hwCtrl (v : W64) : Statement (.hwCtrl v) := fun _ =>
  hbus_fits _ _ _ 0x7ffff#19 0x40008#19 0x7ffff0000000000000000 0x400080000000000000000 (by decide) (by decide) (by decide)
theorem hrStatus : Statement .hrStatus := fun _ =>
  hbus_fits _ _ _ 0x7ffff#19 0x10#19 0x7ffff0000000000000000 0x100000000000000000 (by decide) (by decide) (by decide)
theorem hwStatus (v : W64) : Statement (.hwStatus v) := fun _ =>
  hbus_fits _ _ _ 0x7ffff#19 0x40010#19 0x7ffff0000000000000000 0x400100000000000000000 (by decide) (by decide) (by decide)
theorem hrCfgMaxBurst : Statement .hrCfgMaxBurst := fun _ =>
  hbus_fits _ _ _ 0x7ffff#19 0x18#19 0x7ffff0000000000000000 0x180000000000000000 (by decide) (by decide) (by decide)
theorem hwCfgMaxBurst (v : W64) : Statement (.hwCfgMaxBurst v) := fun _ =>
  hbus_fits _ _ _ 0x7ffff#19 0x40018#19 0x7ffff0000000000000000 0x400180000000000000000 (by decide) (by decide) (by decide)
theorem hrCfgMaxAtomic : Statement .hrCfgMaxAtomic := fun _ =>
  hbus_fits _ _ _ 0x7ffff#19 0x20#19 0x7ffff0000000000000000 0x200000000000000000 (by decide) (by decide) (by decide)
theorem hwCfgMaxAtomic (v : W64) : Statement (.hwCfgMaxAtomic v) := fun _ =>
  hbus_fits _ _ _ 0x7ffff#19 0x40020#19 0x7ffff0000000000000000 0x400200000000000000000 (by decide) (by decide) (by decide)
theorem hrCfgNsPerByte : Statement .hrCfgNsPerByte := fun _ =>
  hbus_fits _ _ _ 0x7ffff#19 0x28#19 0x7ffff0000000000000000 0x280000000000000000 (by decide) (by decide) (by decide)
theorem hwCfgNsPerByte (v : W64) : Statement (.hwCfgNsPerByte v) := fun _ =>
  hbus_fits _ _ _ 0x7ffff#19 0x40028#19 0x7ffff0000000000000000 0x400280000000000000000 (by decide) (by decide) (by decide)
theorem hrRxDiscardCount : Statement .hrRxDiscardCount := fun _ =>
  hbus_fits _ _ _ 0x7ffff#19 0x30#19 0x7ffff0000000000000000 0x300000000000000000 (by decide) (by decide) (by decide)
theorem hwRxDiscardCount (v : W64) : Statement (.hwRxDiscardCount v) := fun _ =>
  hbus_fits _ _ _ 0x7ffff#19 0x40030#19 0x7ffff0000000000000000 0x400300000000000000000 (by decide) (by decide) (by decide)
theorem hrTxWaitUntil : Statement .hrTxWaitUntil := fun _ =>
  hbus_fits _ _ _ 0x7ffff#19 0x38#19 0x7ffff0000000000000000 0x380000000000000000 (by decide) (by decide) (by decide)
theorem hwTxWaitUntil (v : W64) : Statement (.hwTxWaitUntil v) := fun _ =>
  hbus_fits _ _ _ 0x7ffff#19 0x40038#19 0x7ffff0000000000000000 0x400380000000000000000 (by decide) (by decide) (by decide)
theorem hrDbgRx : Statement .hrDbgRx := fun _ =>
  hbus_fits _ _ _ 0x7ffff#19 0x40#19 0x7ffff0000000000000000 0x400000000000000000 (by decide) (by decide) (by decide)
theorem hwDbgRx (v : W64) : Statement (.hwDbgRx v) := fun _ =>
  hbus_fits _ _ _ 0x7ffff#19 0x40040#19 0x7ffff0000000000000000 0x400400000000000000000 (by decide) (by decide) (by decide)
theorem hrDbgTx : Statement .hrDbgTx := fun _ =>
  hbus_fits _ _ _ 0x7ffff#19 0x48#19 0x7ffff0000000000000000 0x480000000000000000 (by decide) (by decide) (by decide)
theorem hwDbgTx (v : W64) : Statement (.hwDbgTx v) := fun _ =>
  hbus_fits _ _ _ 0x7ffff#19 0x40048#19 0x7ffff0000000000000000 0x400480000000000000000 (by decide) (by decide) (by decide)
theorem hrTxSel : Statement .hrTxSel := fun _ =>
  hbus_fits _ _ _ 0x7ffff#19 0x80#19 0x7ffff0000000000000000 0x800000000000000000 (by decide) (by decide) (by decide)
theorem hwTxSel (v : W64) : Statement (.hwTxSel v) := fun _ =>
  hbus_fits _ _ _ 0x7ffff#19 0x40080#19 0x7ffff0000000000000000 0x400800000000000000000 (by decide) (by decide) (by decide)
theorem hrTxSeq : Statement .hrTxSeq := fun _ =>
  hbus_fits _ _ _ 0x7ffff#19 0x88#19 0x7ffff0000000000000000 0x880000000000000000 (by decide) (by decide) (by decide)
theorem hwTxSeq (v : W64) : Statement (.hwTxSeq v) := fun _ =>
  hbus_fits _ _ _ 0x7ffff#19 0x40088#19 0x7ffff0000000000000000 0x400880000000000000000 (by decide) (by decide) (by decide)
theorem hrTxLen : Statement .hrTxLen := fun _ =>
  hbus_fits _ _ _ 0x7ffff#19 0x90#19 0x7ffff0000000000000000 0x900000000000000000 (by decide) (by decide) (by decide)
theorem hwTxLen (v : W64) : Statement (.hwTxLen v) := fun _ =>
  hbus_fits _ _ _ 0x7ffff#19 0x40090#19 0x7ffff0000000000000000 0x400900000000000000000 (by decide) (by decide) (by decide)
theorem hrTxFlags : Statement .hrTxFlags := fun _ =>
  hbus_fits _ _ _ 0x7ffff#19 0x98#19 0x7ffff0000000000000000 0x980000000000000000 (by decide) (by decide) (by decide)
theorem hwTxFlags (v : W64) : Statement (.hwTxFlags v) := fun _ =>
  hbus_fits _ _ _ 0x7ffff#19 0x40098#19 0x7ffff0000000000000000 0x400980000000000000000 (by decide) (by decide) (by decide)
theorem hrTxCommit : Statement .hrTxCommit := fun _ =>
  hbus_fits _ _ _ 0x7ffff#19 0xa0#19 0x7ffff0000000000000000 0xa00000000000000000 (by decide) (by decide) (by decide)
theorem hwTxCommit (v : W64) : Statement (.hwTxCommit v) := fun _ =>
  hbus_fits _ _ _ 0x7ffff#19 0x400a0#19 0x7ffff0000000000000000 0x400a00000000000000000 (by decide) (by decide) (by decide)
theorem hrTxCount : Statement .hrTxCount := fun _ =>
  hbus_fits _ _ _ 0x7ffff#19 0xa8#19 0x7ffff0000000000000000 0xa80000000000000000 (by decide) (by decide) (by decide)
theorem hwTxCount (v : W64) : Statement (.hwTxCount v) := fun _ =>
  hbus_fits _ _ _ 0x7ffff#19 0x400a8#19 0x7ffff0000000000000000 0x400a80000000000000000 (by decide) (by decide) (by decide)
theorem hrRxSel : Statement .hrRxSel := fun _ =>
  hbus_fits _ _ _ 0x7ffff#19 0xc0#19 0x7ffff0000000000000000 0xc00000000000000000 (by decide) (by decide) (by decide)
theorem hwRxSel (v : W64) : Statement (.hwRxSel v) := fun _ =>
  hbus_fits _ _ _ 0x7ffff#19 0x400c0#19 0x7ffff0000000000000000 0x400c00000000000000000 (by decide) (by decide) (by decide)
theorem hrRxCount : Statement .hrRxCount := fun _ =>
  hbus_fits _ _ _ 0x7ffff#19 0xc8#19 0x7ffff0000000000000000 0xc80000000000000000 (by decide) (by decide) (by decide)
theorem hwRxCount (v : W64) : Statement (.hwRxCount v) := fun _ =>
  hbus_fits _ _ _ 0x7ffff#19 0x400c8#19 0x7ffff0000000000000000 0x400c80000000000000000 (by decide) (by decide) (by decide)
theorem hrRxHeadSeq : Statement .hrRxHeadSeq := fun _ =>
  hbus_fits _ _ _ 0x7ffff#19 0xd0#19 0x7ffff0000000000000000 0xd00000000000000000 (by decide) (by decide) (by decide)
theorem hwRxHeadSeq (v : W64) : Statement (.hwRxHeadSeq v) := fun _ =>
  hbus_fits _ _ _ 0x7ffff#19 0x400d0#19 0x7ffff0000000000000000 0x400d00000000000000000 (by decide) (by decide) (by decide)
theorem hrRxHeadLen : Statement .hrRxHeadLen := fun _ =>
  hbus_fits _ _ _ 0x7ffff#19 0xd8#19 0x7ffff0000000000000000 0xd80000000000000000 (by decide) (by decide) (by decide)
theorem hwRxHeadLen (v : W64) : Statement (.hwRxHeadLen v) := fun _ =>
  hbus_fits _ _ _ 0x7ffff#19 0x400d8#19 0x7ffff0000000000000000 0x400d80000000000000000 (by decide) (by decide) (by decide)
theorem hrRxHeadFlags : Statement .hrRxHeadFlags := fun _ =>
  hbus_fits _ _ _ 0x7ffff#19 0xe0#19 0x7ffff0000000000000000 0xe00000000000000000 (by decide) (by decide) (by decide)
theorem hwRxHeadFlags (v : W64) : Statement (.hwRxHeadFlags v) := fun _ =>
  hbus_fits _ _ _ 0x7ffff#19 0x400e0#19 0x7ffff0000000000000000 0x400e00000000000000000 (by decide) (by decide) (by decide)
theorem hrRxHeadCsum : Statement .hrRxHeadCsum := fun _ =>
  hbus_fits _ _ _ 0x7ffff#19 0xe8#19 0x7ffff0000000000000000 0xe80000000000000000 (by decide) (by decide) (by decide)
theorem hwRxHeadCsum (v : W64) : Statement (.hwRxHeadCsum v) := fun _ =>
  hbus_fits _ _ _ 0x7ffff#19 0x400e8#19 0x7ffff0000000000000000 0x400e80000000000000000 (by decide) (by decide) (by decide)
theorem hrRxHeadTime : Statement .hrRxHeadTime := fun _ =>
  hbus_fits _ _ _ 0x7ffff#19 0xf0#19 0x7ffff0000000000000000 0xf00000000000000000 (by decide) (by decide) (by decide)
theorem hwRxHeadTime (v : W64) : Statement (.hwRxHeadTime v) := fun _ =>
  hbus_fits _ _ _ 0x7ffff#19 0x400f0#19 0x7ffff0000000000000000 0x400f00000000000000000 (by decide) (by decide) (by decide)
theorem hrRxConsume : Statement .hrRxConsume := fun _ =>
  hbus_fits _ _ _ 0x7ffff#19 0xf8#19 0x7ffff0000000000000000 0xf80000000000000000 (by decide) (by decide) (by decide)
theorem hwRxConsume (v : W64) : Statement (.hwRxConsume v) := fun _ =>
  hbus_fits _ _ _ 0x7ffff#19 0x400f8#19 0x7ffff0000000000000000 0x400f80000000000000000 (by decide) (by decide) (by decide)
theorem hrStatSent (p : Prio) : Statement (.hrStatSent p) := fun h =>
  hbus_fits _ _ _ 0x7fe7f#19 0x800#19 0x7fe7f0000000000000000 0x8000000000000000000 (by decide) (by decide) (block_and _ _ p (of_decide_eq_true h))
theorem hrStatRetx (p : Prio) : Statement (.hrStatRetx p) := fun h =>
  hbus_fits _ _ _ 0x7fe7f#19 0x808#19 0x7fe7f0000000000000000 0x8080000000000000000 (by decide) (by decide) (block_and _ _ p (of_decide_eq_true h))
theorem hrStatReliable (p : Prio) : Statement (.hrStatReliable p) := fun h =>
  hbus_fits _ _ _ 0x7fe7f#19 0x810#19 0x7fe7f0000000000000000 0x8100000000000000000 (by decide) (by decide) (block_and _ _ p (of_decide_eq_true h))
theorem hrStatLatency (p : Prio) : Statement (.hrStatLatency p) := fun h =>
  hbus_fits _ _ _ 0x7fe7f#19 0x818#19 0x7fe7f0000000000000000 0x8180000000000000000 (by decide) (by decide) (block_and _ _ p (of_decide_eq_true h))
theorem hrStatLatPerByte (p : Prio) : Statement (.hrStatLatPerByte p) := fun h =>
  hbus_fits _ _ _ 0x7fe7f#19 0x820#19 0x7fe7f0000000000000000 0x8200000000000000000 (by decide) (by decide) (block_and _ _ p (of_decide_eq_true h))
theorem hrLastSeq (p : Prio) : Statement (.hrLastSeq p) := fun h =>
  hbus_fits _ _ _ 0x7fe7f#19 0x828#19 0x7fe7f0000000000000000 0x8280000000000000000 (by decide) (by decide) (block_and _ _ p (of_decide_eq_true h))
theorem hrTxTotal (p : Prio) : Statement (.hrTxTotal p) := fun h =>
  hbus_fits _ _ _ 0x7fe7f#19 0x830#19 0x7fe7f0000000000000000 0x8300000000000000000 (by decide) (by decide) (block_and _ _ p (of_decide_eq_true h))
theorem hrTxBreak (p : Prio) : Statement (.hrTxBreak p) := fun h =>
  hbus_fits _ _ _ 0x7fe7f#19 0x838#19 0x7fe7f0000000000000000 0x8380000000000000000 (by decide) (by decide) (block_and _ _ p (of_decide_eq_true h))
theorem hrRxActive (p : Prio) : Statement (.hrRxActive p) := fun h =>
  hbus_fits _ _ _ 0x7fe7f#19 0x840#19 0x7fe7f0000000000000000 0x8400000000000000000 (by decide) (by decide) (block_and _ _ p (of_decide_eq_true h))
theorem hrRxBreak (p : Prio) : Statement (.hrRxBreak p) := fun h =>
  hbus_fits _ _ _ 0x7fe7f#19 0x848#19 0x7fe7f0000000000000000 0x8480000000000000000 (by decide) (by decide) (block_and _ _ p (of_decide_eq_true h))
theorem hrRxSlotSeq (p : Prio) : Statement (.hrRxSlotSeq p) := fun h =>
  hbus_fits _ _ _ 0x7fe7f#19 0x850#19 0x7fe7f0000000000000000 0x8500000000000000000 (by decide) (by decide) (block_and _ _ p (of_decide_eq_true h))
theorem hrRxSlotLen (p : Prio) : Statement (.hrRxSlotLen p) := fun h =>
  hbus_fits _ _ _ 0x7fe7f#19 0x858#19 0x7fe7f0000000000000000 0x8580000000000000000 (by decide) (by decide) (block_and _ _ p (of_decide_eq_true h))
theorem hwPrioBlock (p : Prio) (k : BitVec 4) (v : W64) : Statement (.hwPrioBlock p k v) := fun h =>
  hbus_fits _ _ _ 0x7fe07#19 0x40800#19 0x7fe070000000000000000 0x408000000000000000000 (by decide) (by decide) (block_write_and p k (of_decide_eq_true (Bool.and_eq_true _ _ ▸ h).1))
theorem hrTxContent (i : BitVec 13) : Statement (.hrTxContent i) := fun h =>
  hbus_fits _ _ _ 0x7f807#19 0x10000#19 0x7f8070000000000000000 0x100000000000000000000 (by decide) (by decide) (content_and _ _ i (of_decide_eq_true h))
theorem hwTxContent (i : BitVec 13) (v : W64) : Statement (.hwTxContent i v) := fun h =>
  hbus_fits _ _ _ 0x7f807#19 0x50000#19 0x7f8070000000000000000 0x500000000000000000000 (by decide) (by decide) (content_and _ _ i (of_decide_eq_true h))
theorem hrRxContent (i : BitVec 13) : Statement (.hrRxContent i) := fun h =>
  hbus_fits _ _ _ 0x7f807#19 0x20000#19 0x7f8070000000000000000 0x200000000000000000000 (by decide) (by decide) (content_and _ _ i (of_decide_eq_true h))
theorem hwRxContent (i : BitVec 13) (v : W64) : Statement (.hwRxContent i v) := fun h =>
  hbus_fits _ _ _ 0x7f807#19 0x60000#19 0x7f8070000000000000000 0x600000000000000000000 (by decide) (by decide) (content_and _ _ i (of_decide_eq_true h))
theorem hbErr (we : Bool) (a : Addr) (v : W64) : Statement (.hbErr we a v) := fun _ => (BitVec.and_zero : hbusWord we a v &&& 0#83 = 0#83)

end Sys2Proof.Laws.FixedBits
end

