-- ==== Sys2Proof/Laws/Tick.lean ====
section
/-! SUPPORT. The tick: what a repetition of operations keeps, the fuel it needs, and what each operation can answer. -/

namespace Sys2Proof.Machine

/-! ### The repetition (spec/41_framer.md R200) -/

@[simp] theorem finishTick_ret (k : Nat) (s : State) (h : Hint) :
    finishTick k (.ret s h) = .next { s with env := { s.env with hint := h } } := by cases k <;> rfl
@[simp] theorem finishTick_fault (k : Nat) (f : Fault) : finishTick k (.fault f) = .fault f := by cases k <;> rfl
@[simp] theorem finishTick_cont_zero (s : State) : finishTick 0 (.cont s) = .fault .endlessTick := rfl
@[simp] theorem finishTick_cont_succ (k : Nat) (s : State) : finishTick (k + 1) (.cont s) = finishTick k (opOf s) := rfl

/-- More fuel changes nothing of a tick that ends. -/
theorem finishTick_mono {t : State} : ∀ (k j : Nat) (r : TickRes), finishTick k r = .next t → k ≤ j → finishTick j r = .next t
  | k, j, .ret s h, e, _ => by simpa using e
  | k, j, .fault f, e, _ => by simp at e
  | 0, _, .cont s, e, _ => by simp at e
  | k + 1, j, .cont s, e, hj => by
    obtain ⟨j, rfl⟩ : ∃ i, j = i + 1 := ⟨j - 1, by omega⟩
    exact finishTick_mono k j (opOf s) e (by omega)

/-- The states of an answer satisfy a property. -/
def TickRes.All (Q : State → Prop) : TickRes → Prop
  | .cont s => Q s
  | .ret s _ => Q s
  | .fault _ => True

/-- What every operation keeps, a tick keeps: the one induction over the repetition. -/
theorem finishTick_all {Q : State → Prop} (hhint : ∀ s h, Q s → Q { s with env := { s.env with hint := h } })
    (hop : ∀ s, Q s → (opOf s).All Q) {t : State} :
    ∀ (k : Nat) (r : TickRes), r.All Q → finishTick k r = .next t → Q t
  | k, .ret s h, hr, e => by
    simp only [finishTick_ret, Host.Outcome.next.injEq] at e; subst e; exact hhint s h hr
  | k, .fault f, _, e => by simp at e
  | 0, .cont s, _, e => by simp at e
  | k + 1, .cont s, hr, e => finishTick_all hhint hop k (opOf s) (hop s hr) e

theorem execFrGnp_eq (s : State) (h : s.tx.fstate = .gettingNextPacket) : execFrGnp s = finishTick s.tickBound (opOf s) := by
  simp [execFrGnp, opOf, h]
theorem execFrShb_eq (s : State) (h : s.tx.fstate = .sendingHeaderBurst) : execFrShb s = finishTick s.tickBound (opOf s) := by
  simp [execFrShb, opOf, h]
theorem execFrWhbi_eq (s : State) (h : s.tx.fstate = .waitingForHeaderBurstIngestion) :
    execFrWhbi s = finishTick s.tickBound (opOf s) := by simp [execFrWhbi, opOf, h]
theorem execFrSb_eq (s : State) (h : s.tx.fstate = .sendingBurst) : execFrSb s = finishTick s.tickBound (opOf s) := by
  simp [execFrSb, opOf, h]
theorem execFrWbi_eq (s : State) (h : s.tx.fstate = .waitingForBurstIngestion) :
    execFrWbi s = finishTick s.tickBound (opOf s) := by simp [execFrWbi, opOf, h]
theorem execFrWpbi_eq (s : State) (h : s.tx.fstate = .waitingForPartialBurstIngestion) :
    execFrWpbi s = finishTick s.tickBound (opOf s) := by simp [execFrWpbi, opOf, h]
theorem execFrHalt_eq (s : State) (h : s.tx.fstate = .halted) : execFrHalt s = finishTick s.tickBound (opOf s) := by
  simp [execFrHalt, opOf, h]

/-! ### Selection -/

@[simp] theorem mem_allPrios (p : Prio) : p ∈ allPrios := by revert p; decide

theorem mem_waitingPrios (s : State) (q : Prio) : q ∈ s.waitingPrios ↔ q.toNat < s.params.nPrio ∧ 0 < s.countTx q := by
  simp [State.waitingPrios]

/-- The preemption test (R211). -/
theorem higherWaiting_iff (s : State) :
    s.higherWaiting = true ↔
      ∃ q : Prio, q.toNat < s.params.nPrio ∧ 0 < s.countTx q ∧ q.toNat < s.tx.txCur.toNat := by
  simp only [State.higherWaiting, List.any_eq_true, mem_waitingPrios, decide_eq_true_eq]
  exact ⟨fun ⟨q, ⟨a, b⟩, c⟩ => ⟨q, a, b, c⟩, fun ⟨q, a, b, c⟩ => ⟨q, ⟨a, b⟩, c⟩⟩

/-- A selected priority is below `N_PRIO` and its FIFO has a head. -/
theorem select?_mem (s : State) (p : Prio) (h : s.select? = some p) :
    p.toNat < s.params.nPrio ∧ ∃ e, s.headTx? p = some e := by
  have hm : p ∈ s.waitingPrios := List.mem_of_mem_head? (by rw [State.select?] at h; simp [h])
  obtain ⟨h1, h2⟩ := (mem_waitingPrios s p).1 hm
  refine ⟨h1, ?_⟩
  unfold State.countTx at h2
  unfold State.headTx?
  cases hq : (s.txp p).queue with
  | nil => rw [hq] at h2; simp at h2
  | cons e r => exact ⟨e, rfl⟩

theorem State.answer_le (s : State) (n : Nat) : s.answer n ≤ n := by
  unfold State.answer; split
  · exact Nat.zero_le _
  · exact Nat.min_le_right _ _

/-! ### What each operation can answer -/

/-- FR_GNP (R206, R207). -/
theorem opGnp_cases (s : State) :
    (s.select? = none ∧ opGnp s = .ret s .none) ∨
    ∃ p e, s.select? = some p ∧ s.headTx? p = some e ∧
      ((e.cont = false ∧ opGnp s = .cont ((s.recordFresh p e).beginFrame p)) ∨
       (e.cont = true ∧ ((s.txp p).total = 0 ∨ s.params.capacity < fullLen (s.txp p) e) ∧
        opGnp s = .ret (s.raise .fatal) .none) ∨
       (e.cont = true ∧ (s.txp p).total ≠ 0 ∧ fullLen (s.txp p) e ≤ s.params.capacity ∧
        opGnp s = .cont (s.beginFrame p))) := by
  cases h : s.select? with
  | none => exact .inl ⟨rfl, by simp [opGnp, h]⟩
  | some p =>
    obtain ⟨-, e, he⟩ := select?_mem s p h
    refine .inr ⟨p, e, rfl, he, ?_⟩
    simp only [opGnp, h, he]
    by_cases hc : e.cont = false
    · exact .inl ⟨hc, if_pos hc⟩
    · have hc' : e.cont = true := by simpa using hc
      by_cases hf : (s.txp p).total = 0 ∨ s.params.capacity < fullLen (s.txp p) e
      · exact .inr (.inl ⟨hc', hf, by rw [if_neg hc]; exact if_pos hf⟩)
      · have hn : (s.txp p).total ≠ 0 ∧ fullLen (s.txp p) e ≤ s.params.capacity := by
          constructor
          · intro z; exact hf (.inl z)
          · exact Nat.le_of_not_lt (fun z => hf (.inr z))
        exact .inr (.inr ⟨hc', hn.1, hn.2, by rw [if_neg hc]; exact if_neg hf⟩)

/-- The state after a header write (R208). -/
def State.headerWritten (s : State) (e : TxEntry) : State :=
  { s.offer (((hdrBytes s.params s.tx.txCur e).drop s.tx.hdrPos.toNat).take s.headerChunk) with
    tx := { s.tx with hdrPos := s.tx.hdrPos + BitVec.ofNat 4 (s.answer s.headerChunk)
                      burst := s.tx.burst + BitVec.ofNat 32 (s.answer s.headerChunk) } }

/-- FR_SHB (R208). -/
theorem opShb_cases (s : State) :
    (s.ctl.maxBurst ≤ s.tx.burst ∧ opShb s = s.enterWait .waitingForHeaderBurstIngestion false) ∨
    (¬ s.ctl.maxBurst ≤ s.tx.burst ∧ s.headTx? s.tx.txCur = none ∧ opShb s = .fault .noHead) ∨
    ∃ e, ¬ s.ctl.maxBurst ≤ s.tx.burst ∧ s.headTx? s.tx.txCur = some e ∧
      (((s.headerWritten e).tx.hdrPos = 13#4 ∨ s.ctl.maxBurst ≤ (s.headerWritten e).tx.burst) ∧
        opShb s = (s.headerWritten e).enterWait .waitingForHeaderBurstIngestion false ∨
       ¬ ((s.headerWritten e).tx.hdrPos = 13#4 ∨ s.ctl.maxBurst ≤ (s.headerWritten e).tx.burst) ∧
        (s.answer s.headerChunk < s.headerChunk ∧ opShb s = .ret (s.headerWritten e) .none ∨
         s.answer s.headerChunk = s.headerChunk ∧ opShb s = .cont (s.headerWritten e))) := by
  by_cases h0 : s.ctl.maxBurst ≤ s.tx.burst
  · exact .inl ⟨h0, by simp only [opShb, if_pos h0]⟩
  · cases hh : s.headTx? s.tx.txCur with
    | none => exact .inr (.inl ⟨h0, rfl, by simp only [opShb, if_neg h0, hh]⟩)
    | some e =>
      refine .inr (.inr ⟨e, h0, rfl, ?_⟩)
      have key : opShb s =
          if (s.headerWritten e).tx.hdrPos = 13#4 ∨ s.ctl.maxBurst ≤ (s.headerWritten e).tx.burst then
            (s.headerWritten e).enterWait .waitingForHeaderBurstIngestion false
          else if s.answer s.headerChunk < s.headerChunk then .ret (s.headerWritten e) .none
          else .cont (s.headerWritten e) := by
        simp only [opShb, if_neg h0, hh]; rfl
      rw [key]
      split
      · rename_i h; exact .inl ⟨h, rfl⟩
      · rename_i h; refine .inr ⟨h, ?_⟩
        split
        · rename_i hw; exact .inl ⟨hw, rfl⟩
        · rename_i hw; exact .inr ⟨by have := s.answer_le s.headerChunk; omega, rfl⟩

/-- FR_WHBI (R209). -/
theorem opWhbi_cases (s : State) :
    (s.waiting = true ∧ opWhbi s = .ret s s.waitLeft) ∨
    (s.waiting = false ∧ s.tx.hdrPos.toNat < 13 ∧
      opWhbi s = .cont { s with tx := { s.tx with burst := 0, fstate := .sendingHeaderBurst } }) ∨
    (s.waiting = false ∧ 13 ≤ s.tx.hdrPos.toNat ∧
      opWhbi s = .cont { s with tx := { s.tx with burst := 0, bpos := 0, escPending := false, fstate := .sendingBurst } }) := by
  cases hw : s.waiting with
  | true => exact .inl ⟨rfl, by simp [opWhbi, hw]⟩
  | false =>
    by_cases h : s.tx.hdrPos.toNat < 13
    · exact .inr (.inl ⟨rfl, h, by simp [opWhbi, hw, h]⟩)
    · exact .inr (.inr ⟨rfl, Nat.le_of_not_lt h, by simp [opWhbi, hw, h]⟩)

/-- The size of the next body write (R211). -/
def State.bodySize (s : State) (e : TxEntry) : Nat :=
  s.bodyChunk (wire s.params (s.body s.tx.txCur e) s.tx.bpos s.tx.escPending).length

/-- The position after the next body write (R204). -/
def State.bodyAt (s : State) (e : TxEntry) : W16 × Bool :=
  advance s.params.startTok (s.body s.tx.txCur e) (s.answer (s.bodySize e)) s.tx.bpos s.tx.escPending

/-- The state after a body write (R211). -/
def State.bodySent (s : State) (e : TxEntry) : State :=
  { s.offer ((wire s.params (s.body s.tx.txCur e) s.tx.bpos s.tx.escPending).take (s.bodySize e)) with
    tx := { s.tx with bpos := (s.bodyAt e).1, escPending := (s.bodyAt e).2
                      burst := s.tx.burst + BitVec.ofNat 32 (s.answer (s.bodySize e)) } }

/-- FR_SB (R211). -/
theorem opSb_cases (s : State) :
    (s.ctl.maxBurst ≤ s.tx.burst ∧ opSb s = s.enterWait .waitingForBurstIngestion false) ∨
    (¬ s.ctl.maxBurst ≤ s.tx.burst ∧ s.headTx? s.tx.txCur = none ∧ opSb s = .fault .noHead) ∨
    ∃ e, ¬ s.ctl.maxBurst ≤ s.tx.burst ∧ s.headTx? s.tx.txCur = some e ∧
      (((s.bodyAt e).1.toNat = (s.body s.tx.txCur e).length ∧ (s.bodyAt e).2 = false) ∧
        opSb s = ((s.bodySent e).complete e).enterWait .waitingForBurstIngestion true ∨
       ¬ ((s.bodyAt e).1.toNat = (s.body s.tx.txCur e).length ∧ (s.bodyAt e).2 = false) ∧
        (((s.bodyAt e).2 = false ∧ (s.bodySent e).higherWaiting = true) ∧
          opSb s = ((s.bodySent e).preempt e).enterWait .waitingForPartialBurstIngestion false ∨
         ¬ ((s.bodyAt e).2 = false ∧ (s.bodySent e).higherWaiting = true) ∧
          (s.ctl.maxBurst ≤ (s.bodySent e).tx.burst ∧ opSb s = (s.bodySent e).enterWait .waitingForBurstIngestion false ∨
           ¬ s.ctl.maxBurst ≤ (s.bodySent e).tx.burst ∧
            (s.answer (s.bodySize e) < s.bodySize e ∧ opSb s = .ret (s.bodySent e) .none ∨
             s.answer (s.bodySize e) = s.bodySize e ∧ opSb s = .cont (s.bodySent e))))) := by
  by_cases h0 : s.ctl.maxBurst ≤ s.tx.burst
  · exact .inl ⟨h0, by simp only [opSb, if_pos h0]⟩
  · cases hh : s.headTx? s.tx.txCur with
    | none => exact .inr (.inl ⟨h0, rfl, by simp only [opSb, if_neg h0, hh]⟩)
    | some e =>
      refine .inr (.inr ⟨e, h0, rfl, ?_⟩)
      have key : opSb s =
          if (s.bodyAt e).1.toNat = (s.body s.tx.txCur e).length ∧ (s.bodyAt e).2 = false then
            ((s.bodySent e).complete e).enterWait .waitingForBurstIngestion true
          else if (s.bodyAt e).2 = false ∧ (s.bodySent e).higherWaiting = true then
            ((s.bodySent e).preempt e).enterWait .waitingForPartialBurstIngestion false
          else if s.ctl.maxBurst ≤ (s.bodySent e).tx.burst then (s.bodySent e).enterWait .waitingForBurstIngestion false
          else if s.answer (s.bodySize e) < s.bodySize e then .ret (s.bodySent e) .none
          else .cont (s.bodySent e) := by
        simp only [opSb, if_neg h0, hh]; rfl
      rw [key]
      split
      · rename_i h; exact .inl ⟨h, rfl⟩
      · rename_i h; refine .inr ⟨h, ?_⟩
        split
        · rename_i h2; exact .inl ⟨h2, rfl⟩
        · rename_i h2; refine .inr ⟨h2, ?_⟩
          split
          · rename_i h3; exact .inl ⟨h3, rfl⟩
          · rename_i h3; refine .inr ⟨h3, ?_⟩
            split
            · rename_i hw; exact .inl ⟨hw, rfl⟩
            · rename_i hw; exact .inr ⟨by have := s.answer_le (s.bodySize e); omega, rfl⟩

/-- FR_WBI (R216). -/
theorem opWbi_cases (s : State) :
    (s.waiting = true ∧ opWbi s = .ret s s.waitLeft) ∨
    (s.waiting = false ∧ s.tx.fDone = true ∧
      opWbi s = .cont { s with tx := { s.tx with burst := 0, fDone := false, fstate := .gettingNextPacket } }) ∨
    (s.waiting = false ∧ s.tx.fDone = false ∧
      opWbi s = .cont { s with tx := { s.tx with burst := 0, fstate := .sendingBurst } }) := by
  cases hw : s.waiting with
  | true => exact .inl ⟨rfl, by simp [opWbi, hw]⟩
  | false =>
    cases hf : s.tx.fDone with
    | true => exact .inr (.inl ⟨rfl, rfl, by simp [opWbi, hw, hf]⟩)
    | false => exact .inr (.inr ⟨rfl, rfl, by simp [opWbi, hw, hf]⟩)

/-- FR_WPBI (R217). -/
theorem opWpbi_cases (s : State) :
    (s.waiting = true ∧ opWpbi s = .ret s s.waitLeft) ∨
    (s.waiting = false ∧
      opWpbi s = .cont { s with tx := { s.tx with burst := 0, fstate := .gettingNextPacket } }) := by
  cases hw : s.waiting with
  | true => exact .inl ⟨rfl, by simp [opWpbi, hw]⟩
  | false => exact .inr ⟨rfl, by simp [opWpbi, hw]⟩

/-- `EnterWait` always ends the tick (R210). -/
theorem State.enterWait_eq (s : State) (next : FState) (final : Bool) :
    s.enterWait next final =
      .ret { s with tx := { s.tx with
               waitUntil := s.env.now + s.tx.burst.setWidth 64 * s.ctl.nsPerByte.setWidth 64, fDone := final, fstate := next } }
           (.wait (s.tx.burst.setWidth 64 * s.ctl.nsPerByte.setWidth 64)) := rfl

end Sys2Proof.Machine
end

