-- ==== Sys2Proof/Tests/Slice0.lean ====
section
/-! SUPPORT. Tests on fixed values, every expected result taken from spec/ (spec/95_test_vectors.md where a vector is named, else
worked out by hand from the rule named), and for each obligation with hypotheses a witness: concrete states and operands that
meet them. -/

open Sys2Proof Sys2Proof.Machine Sys2Proof.Claims

namespace Sys2Proof.Tests

set_option maxRecDepth 20000

/-! ### Ill-formed terms, one for each check of `wellFormed`, and the well-formed neighbour -/

theorem test_wf_token_as_byte :
    wellFormed .default (.dfWfpOther 0x7E) = false ∧ wellFormed .default (.dfRcByte 0x7E) = false ∧
    wellFormed .default (.dfRfByte 0x7E) = false ∧ wellFormed .default (.dfRcByte 0x7D) = true := by decide

theorem test_wf_token_as_other :
    wellFormed .default (.dfRhByte 0x7D) = false ∧ wellFormed .default (.dfDstcOther 0x7E) = false ∧
    wellFormed .default (.dfDstfOther 0x7D) = false ∧ wellFormed .default (.dfRhByte 0x7F) = true := by decide

theorem test_wf_priority :
    wellFormed .default (.hrStatSent 4) = false ∧ wellFormed .default (.hwPrioBlock 4 0 0) = false ∧
    wellFormed .default (.hrRxSlotLen 3) = true := by decide

theorem test_wf_block_register :
    wellFormed .default (.hwPrioBlock 0 12 0) = false ∧ wellFormed .default (.hwPrioBlock 0 11 0) = true := by decide

theorem test_wf_content_index :
    wellFormed .default (.hrTxContent 256) = false ∧ wellFormed .default (.hwRxContent 256 0) = false ∧
    wellFormed .default (.hwTxContent 255 0) = true := by decide

theorem test_wf_error_access :
    wellFormed .default (.hbErr true 0x008 0) = false ∧ wellFormed .default (.hbErr false 0x004 1) = false ∧
    wellFormed .default (.hbErr false 0x004 0) = true ∧ wellFormed .default (.hbErr true 0x10800 1) = true := by decide

/-! ### Decoding: words written out from spec/30_encoding.md R111, R112, R114 to R116 and the map of spec/10_state.md R40

A DFB word is `dstate`(3 bits) then the byte (8 bits); an HBUS word in hexadecimal is five digits of `we`·2^18 + `addr`, then
sixteen of data. -/

theorem test_decode_dfb_header :
    decodeTableWord 16 0b00001111110 = some .dfWfpStart ∧ decodeTableWord 16 0b00001010101 = some (.dfWfpOther 0x55) ∧
    decodeTableWord 16 0b00101111110 = some .dfRhStart ∧ decodeTableWord 16 0b00101111101 = some .dfRhEsc ∧
    decodeTableWord 16 0b00100000001 = some (.dfRhByte 0x01) := by decide

theorem test_decode_dfb_content :
    decodeTableWord 16 0b01001111110 = some .dfRcStart ∧ decodeTableWord 16 0b01001111101 = some (.dfRcByte 0x7D) ∧
    decodeTableWord 16 0b01101111101 = some .dfDstcEsc ∧ decodeTableWord 16 0b01101111110 = some .dfDstcStart ∧
    decodeTableWord 16 0b01100000000 = some (.dfDstcOther 0x00) := by decide

theorem test_decode_dfb_footer :
    decodeTableWord 16 0b10001111110 = some .dfRfStart ∧ decodeTableWord 16 0b10000111000 = some (.dfRfByte 0x38) ∧
    decodeTableWord 16 0b10101111101 = some .dfDstfEsc ∧ decodeTableWord 16 0b10101111110 = some .dfDstfStart ∧
    decodeTableWord 16 0b10100000000 = some (.dfDstfOther 0x00) ∧
    decodeTableWord 16 0b11000010001 = some (.dfReserved 0 0x11) ∧
    decodeTableWord 16 0b11101111110 = some (.dfReserved 1 0x7E) := by decide

/-- R114: the rows that the last byte under LAST_START_RESYNC selects, and R220's disabled tick. -/
theorem test_decode_by_context :
    decode .default { txEn := true, lastOfData := true, lastOfFtr := false } (.dfb 0b01001111110) = .dfRcStartLast ∧
    decode .default { txEn := true, lastOfData := false, lastOfFtr := true } (.dfb 0b10001111110) = .dfRfStartLast ∧
    decode .default { txEn := true, lastOfData := true, lastOfFtr := false } (.dfb 0b10001111110) = .dfRfStart ∧
    decode .default { txEn := false, lastOfData := false, lastOfFtr := false } (.frt 0b011) = .frOff 3 := by decide

theorem test_decode_frt :
    decodeTableWord 8 0b000 = some .frGnp ∧ decodeTableWord 8 0b001 = some .frShb ∧
    decodeTableWord 8 0b010 = some .frWhbi ∧ decodeTableWord 8 0b011 = some .frSb ∧
    decodeTableWord 8 0b100 = some .frWbi ∧ decodeTableWord 8 0b101 = some .frWpbi ∧
    decodeTableWord 8 0b110 = some .frHalt ∧ decodeTableWord 8 0b111 = some .frReserved := by decide

theorem test_decode_refused :
    decodeBits .default tableCtx 8 0b1000 = .error .highBits ∧ decodeBits .default tableCtx 16 0x800 = .error .highBits ∧
    decodeBits .default tableCtx 88 0x800000000000000000000 = .error .highBits ∧
    decodeBits .default tableCtx 0 0 = .error .noBits := by
  refine ⟨?_, ?_, ?_, ?_⟩ <;> rfl

theorem test_decode_hbus_global_read :
    decodeTableWord 88 0x000000000000000000000 = some .hrParams ∧
    decodeTableWord 88 0x000080000000000000000 = some .hrCtrl ∧
    decodeTableWord 88 0x000100000000000000000 = some .hrStatus ∧
    decodeTableWord 88 0x000180000000000000000 = some .hrCfgMaxBurst ∧
    decodeTableWord 88 0x000200000000000000000 = some .hrCfgMaxAtomic ∧
    decodeTableWord 88 0x000280000000000000000 = some .hrCfgNsPerByte ∧
    decodeTableWord 88 0x000300000000000000000 = some .hrRxDiscardCount ∧
    decodeTableWord 88 0x000380000000000000000 = some .hrTxWaitUntil ∧
    decodeTableWord 88 0x000400000000000000000 = some .hrDbgRx ∧
    decodeTableWord 88 0x000480000000000000000 = some .hrDbgTx := by decide

theorem test_decode_hbus_global_write :
    decodeTableWord 88 0x400000000000000000007 = some (.hwParams 7) ∧
    decodeTableWord 88 0x400080000000000000006 = some (.hwCtrl 6) ∧
    decodeTableWord 88 0x400100000000000000700 = some (.hwStatus 0x700) ∧
    decodeTableWord 88 0x400180000000000000040 = some (.hwCfgMaxBurst 0x40) ∧
    decodeTableWord 88 0x400200000000000000040 = some (.hwCfgMaxAtomic 0x40) ∧
    decodeTableWord 88 0x40028000000000000000A = some (.hwCfgNsPerByte 0xA) ∧
    decodeTableWord 88 0x400300000000000000001 = some (.hwRxDiscardCount 1) ∧
    decodeTableWord 88 0x400380000000000000001 = some (.hwTxWaitUntil 1) ∧
    decodeTableWord 88 0x400400000000000000001 = some (.hwDbgRx 1) ∧
    decodeTableWord 88 0x400480000000000000001 = some (.hwDbgTx 1) := by decide

theorem test_decode_hbus_tx :
    decodeTableWord 88 0x000800000000000000000 = some .hrTxSel ∧
    decodeTableWord 88 0x400800000000000000001 = some (.hwTxSel 1) ∧
    decodeTableWord 88 0x000880000000000000000 = some .hrTxSeq ∧
    decodeTableWord 88 0x4008800000000FFFFFFFF = some (.hwTxSeq 0xFFFFFFFF) ∧
    decodeTableWord 88 0x000900000000000000000 = some .hrTxLen ∧
    decodeTableWord 88 0x400900000000000000003 = some (.hwTxLen 3) ∧
    decodeTableWord 88 0x000980000000000000000 = some .hrTxFlags ∧
    decodeTableWord 88 0x400980000000000000004 = some (.hwTxFlags 4) ∧
    decodeTableWord 88 0x000A00000000000000000 = some .hrTxCommit ∧
    decodeTableWord 88 0x400A00000000000000000 = some (.hwTxCommit 0) ∧
    decodeTableWord 88 0x000A80000000000000000 = some .hrTxCount ∧
    decodeTableWord 88 0x400A80000000000000001 = some (.hwTxCount 1) := by decide

theorem test_decode_hbus_rx :
    decodeTableWord 88 0x000C00000000000000000 = some .hrRxSel ∧
    decodeTableWord 88 0x400C00000000000000001 = some (.hwRxSel 1) ∧
    decodeTableWord 88 0x000C80000000000000000 = some .hrRxCount ∧
    decodeTableWord 88 0x400C80000000000000001 = some (.hwRxCount 1) ∧
    decodeTableWord 88 0x000D00000000000000000 = some .hrRxHeadSeq ∧
    decodeTableWord 88 0x400D00000000000000001 = some (.hwRxHeadSeq 1) ∧
    decodeTableWord 88 0x000D80000000000000000 = some .hrRxHeadLen ∧
    decodeTableWord 88 0x400D80000000000000001 = some (.hwRxHeadLen 1) := by decide

theorem test_decode_hbus_rx_head :
    decodeTableWord 88 0x000E00000000000000000 = some .hrRxHeadFlags ∧
    decodeTableWord 88 0x400E00000000000000001 = some (.hwRxHeadFlags 1) ∧
    decodeTableWord 88 0x000E80000000000000000 = some .hrRxHeadCsum ∧
    decodeTableWord 88 0x400E80000000000000001 = some (.hwRxHeadCsum 1) ∧
    decodeTableWord 88 0x000F00000000000000000 = some .hrRxHeadTime ∧
    decodeTableWord 88 0x400F00000000000000001 = some (.hwRxHeadTime 1) ∧
    decodeTableWord 88 0x000F80000000000000000 = some .hrRxConsume ∧
    decodeTableWord 88 0x400F80000000000000001 = some (.hwRxConsume 1) := by decide

theorem test_decode_hbus_block :
    decodeTableWord 88 0x008000000000000000000 = some (.hrStatSent 0) ∧
    decodeTableWord 88 0x008880000000000000000 = some (.hrStatRetx 1) ∧
    decodeTableWord 88 0x009100000000000000000 = some (.hrStatReliable 2) ∧
    decodeTableWord 88 0x009980000000000000000 = some (.hrStatLatency 3) ∧
    decodeTableWord 88 0x008200000000000000000 = some (.hrStatLatPerByte 0) ∧
    decodeTableWord 88 0x008A80000000000000000 = some (.hrLastSeq 1) ∧
    decodeTableWord 88 0x009300000000000000000 = some (.hrTxTotal 2) ∧
    decodeTableWord 88 0x009B80000000000000000 = some (.hrTxBreak 3) ∧
    decodeTableWord 88 0x008400000000000000000 = some (.hrRxActive 0) ∧
    decodeTableWord 88 0x008C80000000000000000 = some (.hrRxBreak 1) ∧
    decodeTableWord 88 0x009500000000000000000 = some (.hrRxSlotSeq 2) ∧
    decodeTableWord 88 0x009D80000000000000000 = some (.hrRxSlotLen 3) ∧
    decodeTableWord 88 0x409D80000000000000009 = some (.hwPrioBlock 3 11 9) := by decide

theorem test_decode_hbus_content :
    decodeTableWord 88 0x100100000000000000000 = some (.hrTxContent 2) ∧
    decodeTableWord 88 0x500100000000000000022 = some (.hwTxContent 2 0x22) ∧
    decodeTableWord 88 0x207F80000000000000000 = some (.hrRxContent 255) ∧
    decodeTableWord 88 0x607F80000000000000001 = some (.hwRxContent 255 1) := by decide

/-- R81, R260: misaligned, in a gap, past `N_PRIO`, past `CAPACITY`, past the map. -/
theorem test_decode_hbus_error :
    decodeTableWord 88 0x000040000000000000000 = some (.hbErr false 0x004 0) ∧
    decodeTableWord 88 0x400500000000000000001 = some (.hbErr true 0x050 1) ∧
    decodeTableWord 88 0x008600000000000000000 = some (.hbErr false 0x860 0) ∧
    decodeTableWord 88 0x00A000000000000000000 = some (.hbErr false 0xA00 0) ∧
    decodeTableWord 88 0x108000000000000000000 = some (.hbErr false 0x10800 0) ∧
    decodeTableWord 88 0x700000000000000000005 = some (.hbErr true 0x30000 5) := by decide

/-! ### Helpers: small states, and what one step leaves -/

/-- What one step shows of the state after it, where there is one. -/
def seen {α : Type} (s : State) (ev : Event) (f : State → α) : Option α :=
  match step { s with env := { s.env with pending := [ev] } } with
  | .next t => some (f t)
  | _ => none

/-- D1 of spec/95_test_vectors.md section 0, with the framer enabled too. -/
def d1 : State := { State.reset with ctl := { Control.reset with rxEn := true, txEn := true } }

/-- D0: LAST_START_RESYNC off. -/
def d0 : State := { d1 with ctl := { d1.ctl with lastStartResync := false } }

/-- Bytes in offset order as slot content. -/
def cells : Nat → List Byte → Memory
  | _, [] => []
  | a, x :: xs => (a, x) :: cells (a + 1) xs

/-- `s` reading a frame of priority 1, `seq` 1, `ack`, length `len`, in `d` with `off` content bytes and `pos` footer bytes read. -/
def reading (s : State) (d : DState) (len off : W16) (xs : List Byte) (pos : BitVec 3) (buf : Vector Byte 4) : State :=
  let slot : RxSlot := { seq := 1, len := len, init := false, ack := true, content := cells 0 xs }
  let t := s.setRxp 1 { s.rxp 1 with active := true, slot := slot }
  { t with rx := { s.rx with dstate := d, rxCur := 1, curOff := off, ftrPos := pos, ftrBuf := buf } }

/-- V-F1 in the middle of its content, after the byte `11`. -/
def inContent (s : State) : State := reading s .readingContent 3 1 [0x11] 0 #v[0, 0, 0, 0]

/-- V-F1 before its last footer byte. -/
def inFooter (s : State) : State := reading s .readingFooter 3 3 [0x11, 0x7E, 0x22] 3 #v[0, 0, 1, 0]

/-- A header before its last byte: priority `p`, `seq` 1, `len` `hi lo`. -/
def inHeader (s : State) (p hi lo : Byte) : State :=
  { s with rx := { s.rx with dstate := .readingHeader, hdrCnt := 12,
                             hdrBuf := #v[0x7E, p, 0, 0, 0, 0, 0, 0, 0, 1, hi, lo, 0] } }

/-- The entry of V-F1, committed @0, with its checksum as FR_GNP records it. -/
def vf1 : TxEntry :=
  { seq := 1, len := 3, cont := false, init := false, ack := true, csum := 0x138, commitTime := 0,
    content := [(0, 0x11), (1, 0x7E), (2, 0x22)] }

/-- T(mb, ma, ns) with `q` in the TX FIFO of priority 1. -/
def sender (mb ma ns : W32) (q : List TxEntry) : State :=
  State.setTxp { State.reset with ctl := { Control.reset with txEn := true, maxBurst := mb, maxAtomic := ma, nsPerByte := ns } }
    1 { TxPrio.reset with total := 20, queue := q }

/-- A state of `sender` in `f`, sending for priority 1 with `hp` header bytes, `bp` body bytes and `bu` burst bytes sent. -/
def sending (s : State) (f : FState) (hp : BitVec 4) (bp : W16) (bu : W32) : State :=
  { s with tx := { s.tx with fstate := f, txCur := 1, hdrPos := hp, bpos := bp, burst := bu } }

/-! ### Single steps -/

theorem test_memory_write_canonical :
    Memory.write (Memory.write [] 5 0xAA) 2 0xBB = [(2, 0xBB), (5, 0xAA)] ∧
    Memory.write [(2, 0xBB), (5, 0xAA)] 5 0x01 = [(2, 0xBB), (5, 0x01)] ∧
    Memory.wf [(2, 0xBB), (5, 0xAA)] = true ∧ Memory.wf [(5, 0xAA), (2, 0xBB)] = false := by decide

/-- V-E1, V-E2, V-E3, V-E8. -/
theorem test_wire_vectors :
    byteSum [0xFF, 0x01] = 0x100 ∧
    canonHdr 0x7E 1 1 3 false true = [0x7E, 0x01, 0, 0, 0, 0, 0, 0, 0, 0x01, 0, 0x03, 0x04] ∧
    packetSum .default 1 1 3 false true [0x11, 0x7E, 0x22] = 0x138 ∧
    stuff 0x7E 0x7D [0x7D, 0x7E, 0x7D] = [0x7D, 0x7E, 0x7D, 0x7D] ∧
    stuff 0x7E 0x7D (footerBytes 0x7E) = [0, 0, 0, 0x7E, 0x7D] := by decide

/-- V-D2, V-D1, V-D30: a start token begins a header, another byte is dropped, and with RX_EN = 0 no byte is taken. -/
theorem test_deframer_idle :
    seen d1 (.link 0x7E 0) (fun t => (t.rx.dstate, t.rx.hdrCnt, t.rx.hdrBuf[0])) = some (.readingHeader, 1, 0x7E) ∧
    seen d1 (.link 0x55 0) (fun t => (t.rx, t.env.rxTaken)) = some (d1.rx, true) ∧
    seen State.reset (.link 0x7E 0) (fun t => (t.rx, t.env.rxTaken)) = some (State.reset.rx, false) := by decide

/-- V-D7, V-D8, V-D9, V-D11: the outcomes of a completed header. -/
theorem test_header_outcomes :
    seen (inHeader d1 9 0 3) (.link 0x04 0) (fun t => (t.rx.dstate, t.rx.lastCause)) = some (.waitingForPacket, 2) ∧
    seen (inHeader d1 1 1 1) (.link 0x00 0) (fun t => (t.rx.dstate, t.rx.lastCause)) = some (.waitingForPacket, 3) ∧
    seen (inHeader d1 1 1 0) (.link 0x00 0) (fun t => (t.rx.dstate, (t.rxp 1).slot.len)) = some (.readingContent, 256) ∧
    seen (inHeader d1 1 0 6) (.link 0x01 0) (fun t => (t.rx.dstate, t.rx.lastCause)) = some (.waitingForPacket, 4) := by
  decide

/-- V-D10: a header with `len` 0 goes on with the footer. -/
theorem test_header_empty_packet :
    seen (inHeader d1 1 0 0) (.link 0x00 0) (fun t => (t.rx.dstate, t.rx.ftrPos, (t.rxp 1).active)) =
      some (.readingFooter, 0, true) := by decide

/-- V-D13, V-D18: a start token in content is held, an escape token alone is data. -/
theorem test_content_bytes :
    seen (inContent d1) (.link 0x7E 0) (fun t => (t.rx.dstate, t.rx.curOff)) = some (.disambiguateContent, 1) ∧
    seen (inContent d1) (.link 0x7D 0) (fun t => (t.rx.curOff, (t.rxp 1).slot.content)) =
      some (2, [(0, 0x11), (1, 0x7D)]) := by decide

/-- V-D14, V-D15: the last content byte is a start token, under LAST_START_RESYNC 1 and 0. -/
theorem test_content_last_start :
    seen (reading d1 .readingContent 3 2 [0x11, 0x22] 0 #v[0, 0, 0, 0]) (.link 0x7E 0)
      (fun t => (t.rx.dstate, t.rx.hdrCnt, (t.rxp 1).brk)) = some (.readingHeader, 1, 2) ∧
    seen (reading d0 .readingContent 3 2 [0x11, 0x22] 0 #v[0, 0, 0, 0]) (.link 0x7E 0) (fun t => t.rx.dstate) =
      some .disambiguateContent := by decide

/-- V-D13 (second step), V-D17: after a held start token. -/
theorem test_disambiguate_content :
    seen (reading d1 .disambiguateContent 3 1 [0x11] 0 #v[0, 0, 0, 0]) (.link 0x7D 0)
      (fun t => (t.rx.dstate, (t.rxp 1).slot.content)) = some (.readingContent, [(0, 0x11), (1, 0x7E)]) ∧
    seen (reading d1 .disambiguateContent 3 1 [0x11] 0 #v[0, 0, 0, 0]) (.link 0x00 0)
      (fun t => (t.rx.dstate, t.rx.hdrCnt, t.rx.hdrBuf[1], (t.rxp 1).brk)) = some (.readingHeader, 2, 0x00, 1) := by decide

/-- V-D5, V-D26: the fourth footer byte commits V-F1, or discards it. -/
theorem test_footer_outcomes :
    seen (inFooter d1) (.link 0x38 1000) (fun t => (t.rx.dstate, (t.rxp 1).active, (t.rxp 1).queue)) =
      some (.waitingForPacket, false, [{ seq := 1, len := 3, init := false, ack := true, csum := 0x138, commitTime := 1000,
                                         content := [0x11, 0x7E, 0x22] }]) ∧
    seen (inFooter d1) (.link 0x39 1000) (fun t => (t.rx.discardCount, t.rx.lastCause, (t.rxp 1).queue)) =
      some (1, 5, []) := by decide

/-- V-T1, first tick: the header goes out in one burst. -/
theorem test_tick_header :
    seen (sender 64 64 10 [{ vf1 with csum := 0 }]) (.tick 0 [13])
      (fun t => (t.tx.fstate, t.tx.waitUntil, t.env.hint, t.env.linkOut)) =
      some (.waitingForHeaderBurstIngestion, 130, .wait 130, [0x7E, 0x01, 0, 0, 0, 0, 0, 0, 0, 0x01, 0, 0x03, 0x04]) := by
  decide

/-- V-T3: a write answered short ends the tick with no wait. -/
theorem test_tick_short_write :
    seen (sender 64 64 10 [vf1]) (.tick 0 [5]) (fun t => (t.tx.fstate, t.tx.hdrPos, t.tx.burst, t.env.hint)) =
      some (.sendingHeaderBurst, 5, 5, .none) := by decide

/-- V-T1, third tick: the body goes out stuffed, the packet is accounted and popped. -/
theorem test_tick_body :
    seen (sending (sender 64 64 10 [vf1]) .sendingBurst 13 0 0) (.tick 130 [8])
      (fun t => (t.env.linkOut, t.tx.bpos, (t.txp 1).queue, (t.txp 1).latPerByte)) =
      some ([0x11, 0x7E, 0x7D, 0x22, 0, 0, 0x01, 0x38], 7, [], 6) := by decide

/-- V-T6: a stuffed pair split across two writes. -/
theorem test_tick_split_pair :
    seen (sending (sender 64 64 10 [vf1]) .sendingBurst 13 0 0) (.tick 130 [2])
      (fun t => (t.env.linkOut, t.tx.bpos, t.tx.escPending, statusWord t)) =
      some ([0x11, 0x7E], 1, true, 0x1000B0) := by decide

/-- V-T8: preemption after four content bytes. -/
theorem test_tick_preemption :
    let e : TxEntry := { vf1 with seq := 5, len := 10, ack := false, csum := 0x345,
                                  content := cells 0 [0x41, 0x42, 0x43, 0x44, 0x45, 0x46, 0x47, 0x48, 0x49, 0x4A] }
    let s := sending ((sender 64 4 10 [e]).setTxp 0 { TxPrio.reset with queue := [vf1] }) .sendingBurst 13 0 0
    seen s (.tick 130 [4]) (fun t => (t.tx.fstate, (t.txp 1).brk, (t.txp 1).queue.map (fun x => (x.len, x.cont)), t.env.hint)) =
      some (.waitingForPartialBurstIngestion, 4, [(6, true)], .wait 40) := by decide

/-- V-T11: a continuation with nothing recorded halts the framer; the soft reset leaves Halted. -/
theorem test_tick_fatal :
    seen ((sender 64 64 10 []).setTxp 2 { TxPrio.reset with queue := [{ vf1 with cont := true }] }) (.tick 1 [])
      (fun t => (statusWord t, t.tx.txCur, t.env.hint)) = some (0x160, 0, .none) ∧
    seen { State.reset with tx := { Framer.reset with fstate := .halted }, ctl := { Control.reset with fatal := true } }
      (.host true 0x008 0x206 0) (fun t => (statusWord t, ctrlWord t.ctl)) = some (0, 0x6) := by decide

/-- V-H1, V-H3, V-H5, V-H7. -/
theorem test_host_registers :
    seen State.reset (.host false 0x000 0 0) (fun t => t.env.readData) = some 0x7D7E040D01000404 ∧
    seen State.reset (.host false 0x860 0 0) (fun t => (t.env.readData, statusWord t)) = some (0, 0x200) ∧
    seen State.reset (.host true 0x30000 1 0) (fun t => statusWord t) = some 0x200 ∧
    seen State.reset (.host true 0x020 0x100000005 0) (fun t => t.ctl.maxAtomic) = some 5 ∧
    seen State.reset (.host true 0x018 0 0) (fun t => t.ctl.maxBurst) = some 1 := by decide

/-- V-H8, V-H9, V-H10. -/
theorem test_host_slot :
    seen State.reset (.host true 0x080 3 0) (fun t => t.ctl.txSel) = some 3 ∧
    seen State.reset (.host true 0x080 0x13 0) (fun t => t.ctl.txSel) = some 0 ∧
    seen State.reset (.host true 0x090 0x12345 0) (fun t => (t.txp 0).slot.len) = some 0x2345 ∧
    seen State.reset (.host true 0x10000 0x1AB 0) (fun t => (t.txp 0).slot.content) = some [(0, 0xAB)] ∧
    seen (State.reset.setTxp 0 { TxPrio.reset with slot := { TxPrio.reset.slot with len := 300 } }) (.host true 0x0A0 0 0)
      (fun t => (statusWord t, t.countTx 0)) = some (0xC00, 0) := by decide

/-! ### Witnesses: for each obligation with hypotheses, states and operands that meet them

A statement with several clauses has each clause met, at the edge of its range where it has one. -/

/-- An outcome is a next state. -/
def isNext (o : Host.Outcome State Fault Refusal) : Bool :=
  match o with
  | .next _ => true
  | _ => false

theorem next_of_isNext {o : Host.Outcome State Fault Refusal} (h : isNext o = true) : ∃ t, o = .next t := by
  cases o with
  | next t => exact ⟨t, rfl⟩
  | fault _ => cases h
  | refused _ => cases h

/-- `s` with one input pending. -/
def withEvent (s : State) (ev : Event) : State := { s with env := { s.env with pending := [ev] } }

theorem test_witness_DecodeOfEncode :
    Params.default.Legal ∧
    (wellFormed .default (.hrTxContent 255) = true ∧ selectedIn tableCtx (.hrTxContent 255) = true) ∧
    (wellFormed .default .dfRcStartLast = true ∧
      selectedIn { txEn := false, lastOfData := true, lastOfFtr := false } .dfRcStartLast = true) ∧
    (wellFormed .default (.frOff 7) = true ∧
      selectedIn { txEn := false, lastOfData := true, lastOfFtr := false } (.frOff 7) = true) := by decide

theorem test_witness_EveryWordSelectsOneOperation : Params.default.Legal := by decide

theorem test_witness_EncodeOfDecode : Params.default.Legal := by decide

/-- Registers and their neighbours that are none: past the last priority block, block register and content index. -/
theorem test_witness_UnmappedOffsetsSelectError :
    Params.default.Legal ∧ (IsRegister .default 0x048 ∧ ¬ IsRegister .default 0x050) ∧
    (IsRegister .default 0x9D8 ∧ ¬ IsRegister .default 0x9E0) ∧ ¬ IsRegister .default 0xA00 ∧
    (IsRegister .default 0x107F8 ∧ ¬ IsRegister .default 0x10800) ∧ ¬ IsRegister .default 0x004 := by
  refine ⟨by decide, ⟨?_, ?_⟩, ⟨?_, ?_⟩, ?_, ⟨?_, ?_⟩, ?_⟩
  · exact ⟨by decide, .inl (by decide)⟩
  · simp only [IsRegister, Params.default]; omega
  · exact ⟨by decide, .inr (.inr (.inr (.inl ⟨3, 0x58, by decide, by decide, by decide⟩)))⟩
  · simp only [IsRegister, Params.default]; omega
  · simp only [IsRegister, Params.default]; omega
  · exact ⟨by decide, .inr (.inr (.inr (.inr (.inl ⟨255, by decide, by decide⟩))))⟩
  · simp only [IsRegister, Params.default]; omega
  · simp only [IsRegister, Params.default]; omega

theorem test_witness_StepRunsDecodedOperation :
    ((withEvent d1 (.link 0x7E 5)).env.pending = .link 0x7E 5 :: [] ∧ (withEvent d1 (.link 0x7E 5)).ctl.rxEn = true ∧
      Selects (withEvent d1 (.link 0x7E 5)) 0x7E .dfWfpStart) ∧
    ((withEvent d1 (.tick 5 [3])).env.pending = .tick 5 [3] :: [] ∧ TickSelects (withEvent d1 (.tick 5 [3])) .frGnp) ∧
    ((withEvent d1 (.host true 0x018 0x40 5)).env.pending = .host true 0x018 0x40 5 :: [] ∧
      decode d1.params d1.decodeCtx (.hbus (hbusWord true 0x018 0x40)) = .hwCfgMaxBurst 0x40) := by
  unfold Selects TickSelects; decide

theorem test_witness_PlacedWordRunsNext :
    State.reset.params = .default ∧ decodeTableWord 8 0b011 = some .frSb ∧ State.reset.countTx State.reset.tx.txCur = 0 ∧
    decodeTableWord 16 0b11000010001 = some (.dfReserved 0 0x11) ∧ decodeTableWord 88 0 = some .hrParams := by decide

theorem test_witness_NoOperationWithoutInput :
    ((withEvent State.reset (.link 0x7E 0)).env.pending = .link 0x7E 0 :: [] ∧
      (withEvent State.reset (.link 0x7E 0)).ctl.rxEn = false) ∧ State.reset.env.pending = [] := by decide

theorem test_witness_HardResetEvent : (withEvent (inContent d1) .hardReset).env.pending = .hardReset :: [] := by decide

theorem test_witness_NetworkByteOrder : 0xFFFF < 256 ^ 2 := by decide

theorem test_witness_StuffingIsInjective : stuff 0x7E 0x7D [0x7E] = stuff 0x7E 0x7D [0x7E] := rfl

theorem test_witness_WaitingForPacketBytes :
    d1.rx.dstate = .waitingForPacket ∧ (0x7D : Byte) ≠ d1.params.startTok := by decide

theorem test_witness_TokensInHeader : d1.params.Legal ∧ (inHeader d1 1 0 3).rx.dstate = .readingHeader := by decide

theorem test_witness_HeaderByteStored :
    (inHeader d1 1 0 3).rx.dstate = .readingHeader ∧ (0x7F : Byte) ≠ d1.params.startTok ∧ (0x7F : Byte) ≠ d1.params.escTok ∧
    ({ d1 with rx := { d1.rx with hdrCnt := 11 } } : State).rx.hdrCnt.toNat < 12 := by decide

/-- Of the states `s` with `hdr_cnt` = 12: an illegal priority, a long fresh frame, a fresh frame, a matching continuation with
content left and with none, and a continuation that does not match. -/
theorem test_witness_CompletedHeader :
    let hdr (s : State) (b : Byte) := s.rx.hdrBuf.setIfInBounds 12 b
    let prio (s : State) (b : Byte) : Prio := BitVec.ofNat 4 (hdrPrioByte (hdr s b)).toNat
    let legal (s : State) (b : Byte) := (hdrPrioByte (hdr s b)).toNat < s.params.nPrio
    let fresh (s : State) (b : Byte) := flagCont (hdrFlags (hdr s b)) = false
    let matching (s : State) (b : Byte) :=
      (s.rxp (prio s b)).active = true ∧ hdrSeq (hdr s b) = (s.rxp (prio s b)).slot.seq ∧
        hdrLength (hdr s b) = (s.rxp (prio s b)).slot.len - (s.rxp (prio s b)).brk
    let part (brk : W16) : State := State.setRxp d1 1 { (inContent d1).rxp 1 with brk := brk }
    (∀ s ∈ [inHeader d1 4 0 0, inHeader d1 3 1 1, inHeader d1 3 1 0, inHeader (part 1) 1 0 2, inHeader (part 3) 1 0 0,
      inHeader (part 1) 1 0 3], s.rx.hdrCnt = 12) ∧
    (¬ legal (inHeader d1 4 0 0) 0x00) ∧
    (legal (inHeader d1 3 1 1) 0x00 ∧ fresh (inHeader d1 3 1 1) 0x00 ∧
      d1.params.capacity < (hdrLength (hdr (inHeader d1 3 1 1) 0x00)).toNat) ∧
    (legal (inHeader d1 3 1 0) 0x04 ∧ fresh (inHeader d1 3 1 0) 0x04 ∧
      (hdrLength (hdr (inHeader d1 3 1 0) 0x04)).toNat ≤ d1.params.capacity) ∧
    (legal (inHeader (part 1) 1 0 2) 0x01 ∧ ¬ fresh (inHeader (part 1) 1 0 2) 0x01 ∧
      matching (inHeader (part 1) 1 0 2) 0x01) ∧
    (legal (inHeader (part 3) 1 0 0) 0x01 ∧ ¬ fresh (inHeader (part 3) 1 0 0) 0x01 ∧
      matching (inHeader (part 3) 1 0 0) 0x01) ∧
    (legal (inHeader (part 1) 1 0 3) 0x01 ∧ ¬ fresh (inHeader (part 1) 1 0 3) 0x01 ∧
      ¬ matching (inHeader (part 1) 1 0 3) 0x01) := by decide

theorem test_witness_StartTokenHeld :
    ((inContent d1).rx.dstate = .readingContent ∧
      ¬ ((inContent d1).ctl.lastStartResync = true ∧
        (inContent d1).rx.curOff + 1 = ((inContent d1).rxp (inContent d1).rx.rxCur).slot.len)) ∧
    ((inFooter d0).rx.dstate = .readingFooter ∧
      ¬ ((inFooter d0).ctl.lastStartResync = true ∧ (inFooter d0).rx.ftrPos + 1 = 4)) := by decide

theorem test_witness_InterruptionKeepsOffset :
    let last := reading d1 .readingContent 3 2 [0x11, 0x22] 0 #v[0, 0, 0, 0]
    let held := reading d1 .disambiguateContent 3 2 [0x11, 0x22] 0 #v[0, 0, 0, 0]
    let heldF := reading d1 .disambiguateFooter 3 3 [0x11, 0x7E, 0x22] 2 #v[0, 0, 0, 0]
    d1.params.Legal ∧
    (last.rx.dstate = .readingContent ∧ last.ctl.lastStartResync = true ∧
      last.rx.curOff + 1 = (last.rxp last.rx.rxCur).slot.len) ∧
    ((inFooter d1).rx.dstate = .readingFooter ∧ (inFooter d1).ctl.lastStartResync = true ∧ (inFooter d1).rx.ftrPos + 1 = 4) ∧
    held.rx.dstate = .disambiguateContent ∧ heldF.rx.dstate = .disambiguateFooter ∧
    (0x00 : Byte) ≠ d1.params.startTok ∧ (0x00 : Byte) ≠ d1.params.escTok := by decide

theorem test_witness_ContentByteStored :
    ((inContent d1).rx.dstate = .readingContent ∧ (0x7D : Byte) ≠ d1.params.startTok ∧
      (inContent d1).rx.curOff.toNat < (inContent d1).params.capacity) ∧
    ({ d1 with rx := { d1.rx with dstate := .disambiguateContent, curOff := 255 } } : State).rx.curOff.toNat <
      d1.params.capacity := by decide

theorem test_witness_FooterByteStored :
    (inFooter d1).rx.dstate = .readingFooter ∧ (0x7D : Byte) ≠ d1.params.startTok ∧
    (reading d1 .disambiguateFooter 3 3 [0x11, 0x7E, 0x22] 2 #v[0, 0, 0, 0]).rx.dstate = .disambiguateFooter ∧
    (reading d1 .disambiguateFooter 3 3 [0x11, 0x7E, 0x22] 2 #v[0, 0, 0, 0]).rx.ftrPos.toNat < 3 := by decide

/-- Of the states with `ftr_pos` = 3: a wrong sum, a rejected packet, a full FIFO, and one with room for one entry. -/
theorem test_witness_CompletedFooter :
    let recv (s : State) (b : Byte) : W32 := BitVec.ofNat 32 (beVal (s.rx.ftrBuf.setIfInBounds 3 b).toList)
    let sum (s : State) : W32 :=
      packetSum s.params 1 1 3 false true (s.contentBytes .rx 1 (s.rxp 1).slot.content 0 3)
    let wanted (s : State) (b : Byte) := accepts s.params.rxAccept
      { prio := 1, seq := 1, len := 3, cont := false, init := false, ack := true, csum := recv s b,
        content := s.contentBytes .rx 1 (s.rxp 1).slot.content 0 3 } = true
    let e : RxEntry := { seq := 1, len := 0, init := false, ack := false, csum := 0, commitTime := 0, content := [] }
    let holding (n : Nat) : State := (inFooter d1).setRxp 1 { (inFooter d1).rxp 1 with queue := List.replicate n e }
    let picky : State := { inFooter d1 with params := { Params.default with rxAccept := .rejectAll } }
    ((inFooter d1).rx.ftrPos = 3 ∧ recv (inFooter d1) 0x39 ≠ sum (inFooter d1)) ∧
    (picky.rx.ftrPos = 3 ∧ recv picky 0x38 = sum picky ∧ ¬ wanted picky 0x38) ∧
    ((holding 4).rx.ftrPos = 3 ∧ recv (holding 4) 0x38 = sum (holding 4) ∧ wanted (holding 4) 0x38 ∧
      ((holding 4).rxp 1).queue.length = (holding 4).params.qdepth) ∧
    ((holding 3).rx.ftrPos = 3 ∧ recv (holding 3) 0x38 = sum (holding 3) ∧ wanted (holding 3) 0x38 ∧
      ((holding 3).rxp 1).queue.length ≠ (holding 3).params.qdepth) := by decide

theorem test_witness_ReservedStatesFault :
    (({ d1 with rx := { d1.rx with dstate := .reserved6 } } : State).rx.dstate = .reserved6) ∧
    (({ d1 with rx := { d1.rx with dstate := .reserved7 } } : State).rx.dstate = .reserved7) ∧
    (d1.ctl.txEn = true ∧ ({ d1 with tx := { d1.tx with fstate := .reserved7 } } : State).tx.fstate = .reserved7) ∧
    step { d1 with rx := { d1.rx with dstate := .reserved6 }, tx := { d1.tx with fstate := .reserved7 } } =
      .next { d1 with rx := { d1.rx with dstate := .reserved6 }, tx := { d1.tx with fstate := .reserved7 } } :=
  ⟨by decide, by decide, by decide, rfl⟩

theorem test_witness_DisabledTick : State.reset.ctl.txEn = false := by decide

theorem test_witness_HaltedTick :
    d1.ctl.txEn = true ∧ ({ d1 with tx := { d1.tx with fstate := .halted } } : State).tx.fstate = .halted := by decide

theorem test_witness_HighestPrioritySelected : (sender 1 1 0 [vf1]).select? = some 1 ∧ (sender 1 1 0 []).select? = none := by
  decide

theorem test_witness_IdleTick :
    d1.ctl.txEn = true ∧ d1.tx.fstate = .gettingNextPacket ∧
    (∀ q : Prio, q.toNat < d1.params.nPrio → (d1.txp q).queue = []) := by decide

/-- Priority 1 selected with a continuation: nothing recorded, and one byte past `CAPACITY`. -/
theorem test_witness_FatalSelection :
    let c : TxEntry := { vf1 with cont := true }
    let blank : State := (sender 1 1 0 [c]).setTxp 1 { TxPrio.reset with queue := [c] }
    let long : State := (sender 1 1 0 [c]).setTxp 1 { TxPrio.reset with total := 20, brk := 254, queue := [c] }
    (Selected blank 1 c [] ∧ c.cont = true ∧ (blank.txp 1).total = 0) ∧
    (Selected long 1 c [] ∧ c.cont = true ∧ (long.txp 1).total ≠ 0 ∧
      long.params.capacity < (long.txp 1).brk.toNat + c.len.toNat) := by
  unfold Selected; decide

/-- A fresh packet, and a continuation that fills `CAPACITY`. -/
theorem test_witness_SelectionBeginsFrame :
    let c : TxEntry := { vf1 with cont := true }
    let full : State := (sender 1 1 0 [c]).setTxp 1 { TxPrio.reset with total := 20, brk := 253, queue := [c] }
    (CapsLegal (sender 1 1 0 [vf1]) ∧ Selected (sender 1 1 0 [vf1]) 1 vf1 [] ∧ vf1.cont = false) ∧
    (CapsLegal full ∧ Selected full 1 c [] ∧ c.cont = true ∧ (full.txp 1).total ≠ 0 ∧
      (full.txp 1).brk.toNat + c.len.toNat ≤ full.params.capacity) := by
  unfold Selected CapsLegal; decide

/-- A burst that is used up, and header writes that end the header, the burst, the tick, and none of these. -/
theorem test_witness_HeaderWrite :
    let s (mb ma : W32) (ws : List Nat) : State :=
      let t := sending (sender mb ma 10 [vf1]) .sendingHeaderBurst 3 0 3
      { t with env := { t.env with answers := ws } }
    let n (t : State) := min (min (t.ctl.maxBurst.toNat - t.tx.burst.toNat) t.ctl.maxAtomic.toNat) (13 - t.tx.hdrPos.toNat)
    let ends (t : State) := t.tx.hdrPos.toNat + answerTo t (n t) = 13 ∨
      t.ctl.maxBurst.toNat ≤ t.tx.burst.toNat + answerTo t (n t)
    (∀ t ∈ [s 64 64 [10], s 4 64 [1], s 64 64 [9], s 64 4 [4]], t.ctl.txEn = true ∧ t.tx.fstate = .sendingHeaderBurst ∧
      t.headTx? t.tx.txCur = some vf1 ∧ CapsLegal t ∧ t.tx.hdrPos.toNat < 13 ∧ t.tx.burst.toNat < t.ctl.maxBurst.toNat) ∧
    (s 3 64 []).ctl.maxBurst.toNat ≤ (s 3 64 []).tx.burst.toNat ∧ ends (s 64 64 [10]) ∧ ends (s 4 64 [1]) ∧
    (¬ ends (s 64 64 [9]) ∧ answerTo (s 64 64 [9]) (n (s 64 64 [9])) < n (s 64 64 [9])) ∧
    (¬ ends (s 64 4 [4]) ∧ answerTo (s 64 4 [4]) (n (s 64 4 [4])) = n (s 64 4 [4])) := by
  unfold CapsLegal; decide

/-- A wait with one nanosecond left, in each waiting state. -/
theorem test_witness_WaitNotOver :
    let s (f : FState) : State :=
      let t := sending (sender 64 64 10 [vf1]) f 13 0 0
      { t with tx := { t.tx with waitUntil := 131 }, env := { t.env with now := 130 } }
    ∀ f ∈ [FState.waitingForHeaderBurstIngestion, .waitingForBurstIngestion, .waitingForPartialBurstIngestion],
      (s f).ctl.txEn = true ∧ (s f).tx.fstate = f ∧ (s f).env.now.toNat < (s f).tx.waitUntil.toNat := by decide

/-- Waits that end now: part of the header left, the header done, part of the body left, the packet done. -/
theorem test_witness_WaitOver :
    let s (f : FState) (hp : BitVec 4) (bp : W16) (esc done : Bool) : State :=
      let t := sending (sender 64 64 10 [vf1]) f hp bp 5
      { t with tx := { t.tx with waitUntil := 130, escPending := esc, fDone := done }, env := { t.env with now := 130 } }
    let body := s .waitingForBurstIngestion 13 1 true false
    (∀ t ∈ [s .waitingForHeaderBurstIngestion 12 0 false false, s .waitingForHeaderBurstIngestion 13 0 false false, body,
        s .waitingForBurstIngestion 13 7 false true],
      CapsLegal t ∧ t.tx.waitUntil.toNat ≤ t.env.now.toNat ∧ t.headTx? t.tx.txCur = some vf1) ∧
    (s .waitingForHeaderBurstIngestion 12 0 false false).tx.hdrPos.toNat < 13 ∧
    (s .waitingForHeaderBurstIngestion 13 0 false false).tx.hdrPos = 13 ∧
    (BodyPosition body vf1 ∧ body.tx.fDone = false) ∧ (s .waitingForBurstIngestion 13 7 false true).tx.fDone = true := by
  unfold CapsLegal BodyPosition; decide

/-- A burst that is used up, and body writes that end the burst, the tick, and neither. -/
theorem test_witness_BodyWrite :
    let s (mb ma : W32) (ws : List Nat) : State :=
      let t := sending (sender mb ma 10 [vf1]) .sendingBurst 13 0 1
      { t with env := { t.env with answers := ws } }
    (∀ t ∈ [s 5 64 [4], s 64 64 [2], s 64 3 [3]], t.ctl.txEn = true ∧ t.tx.fstate = .sendingBurst ∧
      t.headTx? t.tx.txCur = some vf1 ∧ CapsLegal t ∧ BodyPosition t vf1 ∧ t.tx.burst.toNat < t.ctl.maxBurst.toNat ∧
      ¬ BodyDone t vf1 ∧ ¬ MustPreempt t vf1) ∧
    (s 1 64 []).ctl.maxBurst.toNat ≤ (s 1 64 []).tx.burst.toNat ∧
    (s 5 64 [4]).ctl.maxBurst.toNat ≤ (s 5 64 [4]).tx.burst.toNat + answerTo (s 5 64 [4]) (bodySize (s 5 64 [4]) vf1) ∧
    ((s 64 64 [2]).tx.burst.toNat + answerTo (s 64 64 [2]) (bodySize (s 64 64 [2]) vf1) < 64 ∧
      answerTo (s 64 64 [2]) (bodySize (s 64 64 [2]) vf1) < bodySize (s 64 64 [2]) vf1) ∧
    ((s 64 3 [3]).tx.burst.toNat + answerTo (s 64 3 [3]) (bodySize (s 64 3 [3]) vf1) < 64 ∧
      answerTo (s 64 3 [3]) (bodySize (s 64 3 [3]) vf1) = bodySize (s 64 3 [3]) vf1) := by
  unfold CapsLegal BodyPosition BodyDone MustPreempt; decide

/-- The last write of an `init` packet, of a new packet, and of one sent before. -/
theorem test_witness_BodyCompletes :
    let s (e : TxEntry) (last : W64) : State :=
      let t := (sender 64 64 10 []).setTxp 1 { TxPrio.reset with total := 20, lastSeq := last, queue := [e] }
      { sending t .sendingBurst 13 0 0 with env := { t.env with now := 130, answers := [8] } }
    let i : TxEntry := { vf1 with init := true }
    (∀ x ∈ [(i, (5 : W64)), (vf1, 0xFFFFFFFFFFFFFFFF), (vf1, 0), (vf1, 1)],
      ((s x.1 x.2).txp (s x.1 x.2).tx.txCur).queue = x.1 :: [] ∧
      (s x.1 x.2).tx.burst.toNat < (s x.1 x.2).ctl.maxBurst.toNat ∧ BodyDone (s x.1 x.2) x.1) ∧
    i.init = true ∧ vf1.init = false ∧
    accepts Params.default.txAccept { prio := 1, seq := 1, len := 3, cont := false, init := false, ack := true, csum := 0x138,
                                      content := [0x11, 0x7E, 0x22] } = true ∧
    (s vf1 0).txp 1 = { TxPrio.reset with total := 20, lastSeq := 0, queue := [vf1] } ∧
    (0 : W64).toNat < vf1.seq.toNat ∧ ¬ ((1 : W64) = 0xFFFFFFFFFFFFFFFF ∨ (1 : W64).toNat < vf1.seq.toNat) := by
  unfold BodyDone; decide

theorem test_witness_BodyPreempted :
    let s : State := sending ((sender 64 2 10 [vf1]).setTxp 0 { TxPrio.reset with queue := [vf1] }) .sendingBurst 13 0 0
    let t (ws : List Nat) : State := { s with env := { s.env with answers := ws } }
    (((t [1]).txp (t [1]).tx.txCur).queue = vf1 :: [] ∧ (t [1]).tx.burst.toNat < (t [1]).ctl.maxBurst.toNat ∧
      ¬ BodyDone (t [1]) vf1 ∧ MustPreempt (t [1]) vf1) ∧ ¬ MustPreempt (t [2]) vf1 := by
  refine ⟨⟨rfl, by decide, by unfold BodyDone; decide, by decide, 0, by decide, by decide, by decide⟩, ?_⟩
  exact fun h => absurd h.1 (by decide)

/-- Before a start token, and owing its escape token. -/
theorem test_witness_AdvanceFollowsWire :
    let body : List Byte := [0x11, 0x7E, 0x22]
    body.length < 2 ^ 16 ∧
    ((1 : W16).toNat ≤ body.length ∧ 4 ≤ (wire .default body 0 false).length) ∧
    (body[(1 : W16).toNat]? = some Params.default.startTok ∧ 2 ≤ (wire .default body 1 true).length) := by decide

theorem test_witness_TickIsBounded :
    TickSelects (sender 64 64 10 [vf1]) .frGnp ∧ ∃ t, Gives .frGnp (sender 64 64 10 [vf1]) t :=
  ⟨by unfold TickSelects; decide, next_of_isNext (by decide)⟩

theorem test_witness_HeaderIsNotPreempted :
    (sending (sender 64 64 10 [vf1]) .sendingHeaderBurst 3 0 3).tx.fstate = .sendingHeaderBurst ∧
    ∃ t, Gives .frShb (sending (sender 64 64 10 [vf1]) .sendingHeaderBurst 3 0 3) t :=
  ⟨by decide, next_of_isNext (by decide)⟩

theorem test_witness_GlobalRegisterReads : d1.params.Legal := by decide

/-- An empty receive FIFO, and one with an entry. -/
theorem test_witness_ReceiveRegisterReads :
    let e : RxEntry := { seq := 1, len := 1, init := false, ack := true, csum := 0, commitTime := 0, content := [0x11] }
    (d1.rxp d1.ctl.rxSel).queue = [] ∧
    ((d1.setRxp 0 { RxPrio.reset with queue := [e] }).rxp (d1.setRxp 0 { RxPrio.reset with queue := [e] }).ctl.rxSel).queue =
      e :: [] := by decide

theorem test_witness_SelectorWrites :
    d1.params.Legal ∧ newSelector d1.params 0 3 = 3 ∧ newSelector d1.params 0 4 = 0 ∧ newSelector d1.params 0 0x10001 = 0 := by
  decide

/-- `len` past `CAPACITY`, a full FIFO, and `len` at `CAPACITY` with room for one entry. -/
theorem test_witness_Commit :
    let s (len : W16) (n : Nat) : State := d1.setTxp 0
      { TxPrio.reset with slot := { TxPrio.reset.slot with len := len }, queue := List.replicate n vf1 }
    let x (s : State) := s.txp s.ctl.txSel
    d1.params.capacity < (x (s 257 4)).slot.len.toNat ∧
    ((x (s 256 4)).slot.len.toNat ≤ d1.params.capacity ∧ (x (s 256 4)).queue.length = d1.params.qdepth) ∧
    ((x (s 256 3)).slot.len.toNat ≤ d1.params.capacity ∧ (x (s 256 3)).queue.length ≠ d1.params.qdepth) := by decide

theorem test_witness_Consume :
    let e : RxEntry := { seq := 1, len := 1, init := false, ack := true, csum := 0, commitTime := 0, content := [0x11] }
    (d1.rxp d1.ctl.rxSel).queue = [] ∧
    ((d1.setRxp 0 { RxPrio.reset with queue := [e, e] }).rxp 0).queue = e :: [e] := by decide

theorem test_witness_ParametersAreConstant : ∃ t, step (withEvent d1 .hardReset) = .next t := next_of_isNext (by decide)

theorem test_witness_EnginesAreDisjoint :
    ((withEvent (inFooter d1) (.link 0x38 9)).env.pending = .link 0x38 9 :: [] ∧
      ∃ t, step (withEvent (inFooter d1) (.link 0x38 9)) = .next t) ∧
    ((withEvent (sender 64 64 10 [vf1]) (.tick 9 [13])).env.pending = .tick 9 [13] :: [] ∧
      ∃ t, step (withEvent (sender 64 64 10 [vf1]) (.tick 9 [13])) = .next t) :=
  ⟨⟨rfl, next_of_isNext (by decide)⟩, ⟨rfl, next_of_isNext (by decide)⟩⟩

/-- A byte that commits a packet, and one that discards it. -/
theorem test_witness_ReceiveQueuesOnlyGrow :
    ((withEvent (inFooter d1) (.link 0x38 9)).env.pending = .link 0x38 9 :: [] ∧
      ∃ t, step (withEvent (inFooter d1) (.link 0x38 9)) = .next t) ∧
    ((withEvent (inFooter d1) (.link 0x39 9)).env.pending = .link 0x39 9 :: [] ∧
      ∃ t, step (withEvent (inFooter d1) (.link 0x39 9)) = .next t) :=
  ⟨⟨rfl, next_of_isNext (by decide)⟩, ⟨rfl, next_of_isNext (by decide)⟩⟩

/-! ### A sound state -/

theorem d1_rxp (p : Prio) : d1.rxp p = RxPrio.reset := by
  show bankGet (Vector.replicate 16 RxPrio.reset) p = _
  exact bankGet_replicate _ p

theorem d1_txp (p : Prio) : d1.txp p = TxPrio.reset := by
  show bankGet (Vector.replicate 16 TxPrio.reset) p = _
  exact bankGet_replicate _ p

/-- D1 with any input pending is sound. -/
theorem sound_d1 (ev : Event) : Sound (withEvent d1 ev) where
  params := by show Params.default.Legal; decide
  deframer :=
    { dstate := by constructor <;> (intro h; cases h)
      hdrCnt := by show (0 : BitVec 4).toNat < 13; decide
      header := fun h => by cases h
      rxCur := by show (0 : Prio).toNat < 4; decide
      ftrPos := by show (0 : BitVec 3).toNat < 4; decide
      active := fun h => by rcases h with h | h | h | h <;> cases h
      content := fun h => by rcases h with h | h <;> cases h
      footer := fun h => by rcases h with h | h <;> cases h
      written := fun h => by rcases h with h | h | h | h <;> cases h
      cause := by show (0 : Byte).toNat ≤ 8; decide }
  rxPrio := fun p => by
    show RxPrioSound Params.default (d1.rxp p)
    rw [d1_rxp]
    exact { len := by decide
            brk := by decide
            written := fun h => by cases h
            content := ⟨by decide, fun c h => by cases h⟩
            depth := by decide
            entries := fun e h => by cases h }
  framer :=
    { fstate := by intro h; cases h
      txCur := by show (0 : Prio).toNat < 4; decide
      fatal := by constructor <;> (intro h; cases h)
      hdrPos := by show (0 : BitVec 4).toNat ≤ 13; decide
      header := fun h => by cases h
      head := fun h => by
        rcases h with h | h | h | h
        · cases h
        · cases h
        · cases h
        · cases h.1
      body := fun h => by
        rcases h with h | h
        · cases h
        · cases h.1 }
  txPrio := fun p => by
    show TxPrioSound Params.default (d1.txp p)
    rw [d1_txp]
    exact { total := .inl rfl
            brk := by decide
            content := ⟨by decide, fun c h => by cases h⟩
            depth := by decide
            entries := fun e h => by cases h }
  control :=
    { maxBurst := by show (1 : W32) ≠ 0; decide
      maxAtomic := by show (1 : W32) ≠ 0; decide
      txSel := by show (0 : Prio).toNat < 4; decide
      rxSel := by show (0 : Prio).toNat < 4; decide
      hostErr := by show false = true ↔ (0 : BitVec 2) ≠ 0; decide
      cause := by show (0 : BitVec 2).toNat ≤ 2; decide }

theorem test_witness_EveryStepKeepsSound :
    Sound (withEvent d1 (.link 0x7E 3)) ∧ ∃ t, step (withEvent d1 (.link 0x7E 3)) = .next t :=
  ⟨sound_d1 _, next_of_isNext (by decide)⟩

theorem test_witness_SoundStatesNeverStop : Sound (withEvent d1 (.tick 3 [])) := sound_d1 _

/-- V-F1 offered to D1. -/
theorem test_witness_FreshFrameIsCommitted :
    let s := withEvent d1 .hardReset
    let header := canonHdr 0x7E 1 1 3 false true
    let csum := packetSum .default 1 1 3 false true [0x11, 0x7E, 0x22]
    Sound s ∧ s.ctl.rxEn = true ∧ (1 : Prio).toNat < s.params.nPrio ∧ [0x11, 0x7E, (0x22 : Byte)].length ≤ s.params.capacity ∧
    (∀ b ∈ header.drop 1, b ≠ s.params.startTok ∧ b ≠ s.params.escTok) ∧
    ([0x11, 0x7E, (0x22 : Byte)].getLast? ≠ some s.params.startTok ∧ BitVec.ofNat 8 csum.toNat ≠ s.params.startTok) ∧
    accepts s.params.rxAccept { prio := 1, seq := 1, len := 3, cont := false, init := false, ack := true, csum := csum,
                                content := [0x11, 0x7E, 0x22] } = true ∧
    (s.rxp 1).queue.length < s.params.qdepth :=
  ⟨sound_d1 _, by decide, by decide, by decide, by decide, by decide, by decide, by decide⟩

end Sys2Proof.Tests
end

/-! PROOFS. Statements of spec/00_scope.md: the byte order of a number (R13), how a step runs its operation (R9) and that no step
changes the build parameters (R10). -/

namespace Sys2Proof.Proofs

open Sys2Proof Sys2Proof.Machine Sys2Proof.Claims

/-! ### Byte order (spec/00_scope.md R13) -/

/-- The recursion of `beBytes` takes the last byte off; this takes the first. -/
theorem beBytes_succ_cons (k v : Nat) : beBytes (k + 1) v = BitVec.ofNat 8 (v / 256 ^ k) :: beBytes k v := by
  induction k generalizing v with
  | zero => simp [beBytes]
  | succ k ih =>
    have hdiv : v / 256 / 256 ^ k = v / 256 ^ (k + 1) := by rw [Nat.div_div_eq_div_mul, Nat.pow_succ']
    calc beBytes (k + 2) v
        = beBytes (k + 1) (v / 256) ++ [BitVec.ofNat 8 v] := rfl
      _ = BitVec.ofNat 8 (v / 256 ^ (k + 1)) :: (beBytes k (v / 256) ++ [BitVec.ofNat 8 v]) := by
          rw [ih, hdiv, List.cons_append]

theorem beVal_beBytes (k v : Nat) (hv : v < 256 ^ k) : beVal (beBytes k v) = v := by
  induction k generalizing v with
  | zero => simp only [beBytes, beVal, List.foldl_nil]; omega
  | succ k ih =>
    have hdiv : v / 256 < 256 ^ k := Nat.div_lt_of_lt_mul (by rwa [← Nat.pow_succ'])
    rw [beBytes, beVal_append, ih _ hdiv, BitVec.toNat_ofNat]
    exact Nat.div_add_mod' v 256

theorem beBytes_beVal (xs : List Byte) : beBytes xs.length (beVal xs) = xs := by
  induction xs using List.reverseRecOn with
  | nil => rfl
  | append_singleton xs b ih =>
    have hb := b.isLt
    have hrest : (beVal xs * 256 + b.toNat) / 256 = beVal xs := by omega
    have hlast : BitVec.ofNat 8 (beVal xs * 256 + b.toNat) = b :=
      BitVec.eq_of_toNat_eq (by rw [BitVec.toNat_ofNat]; omega)
    rw [List.length_append, List.length_singleton, beVal_append, beBytes, hrest, hlast, ih]

/-- Settles O11: each part by induction, the last from the end of the list, where `beVal` grows. -/
theorem networkByteOrder : Obligations.NetworkByteOrder :=
  ⟨beBytes_succ_cons, beVal_beBytes, beBytes_beVal⟩

/-! ### What a step does with each input event (spec/00_scope.md R9, spec/30_encoding.md R113) -/

section Step
variable {s : State} {rest : List Event} {now : W64}

theorem step_idle (h : s.env.pending = []) : step s = .next s := by
  simp only [step, State.fetch, h]

theorem step_hardReset (h : s.env.pending = .hardReset :: rest) :
    step s = .next (State.hardReset { s with env := { s.env with pending := rest } }) := by
  simp only [step, State.fetch, h]

theorem step_link_disabled {b : Byte} (h : s.env.pending = .link b now :: rest) (hen : s.ctl.rxEn = false) :
    step s = .next ((s.latch rest now []).setTaken false) := by
  simp [step, State.fetch, h, hen]

theorem step_link_enabled {b : Byte} (h : s.env.pending = .link b now :: rest) (hen : s.ctl.rxEn = true) :
    step s = exec (decode s.params s.decodeCtx (.dfb (dfbWord s.rx.dstate.code b)))
      ((s.latch rest now []).setTaken true) := by
  simp only [step, State.fetch, h, hen, if_true]

theorem step_tick {ws : List Nat} (h : s.env.pending = .tick now ws :: rest) :
    step s = exec (decode s.params s.decodeCtx (.frt s.tx.fstate.code)) (s.latch rest now ws) := by
  simp only [step, State.fetch, h]

theorem step_host {we : Bool} {a : Addr} {v : W64} (h : s.env.pending = .host we a v now :: rest) :
    step s = exec (decode s.params s.decodeCtx (.hbus (hbusWord we a v))) (s.latch rest now []) := by
  simp only [step, State.fetch, h]

end Step

/-- Settles O6: the equations of `step` for the three kinds of event that select an operation. -/
theorem stepRunsDecodedOperation : Obligations.StepRunsDecodedOperation := by
  refine ⟨fun s b now rest i hp hen hsel => ?link, fun s now ws rest i hp hsel => ?tick,
    fun s we a v now rest i hp hsel => ?host⟩
  case link => subst hsel; exact step_link_enabled hp hen
  case tick => subst hsel; exact step_tick hp
  case host => subst hsel; exact step_host hp

/-! ### The parameters under the deframer's operations (spec/00_scope.md R10) -/

section Params
variable {s t : State}

theorem storeContent_params {c : Byte} (h : s.storeContent c = .next t) : t.params = s.params := by
  obtain ⟨-, u, hu, rfl⟩ | ⟨-, hu⟩ := s.storeContent_cases c
  · cases hu.symm.trans h; rfl
  · cases hu.symm.trans h

theorem processHeader_params (s : State) : s.processHeader.params = s.params := by
  obtain ⟨-, hu⟩ | ⟨-, -, -, hu⟩ | ⟨-, -, -, hu⟩ | ⟨-, -, -, hu⟩ | ⟨-, -, -, hu⟩ := s.processHeader_cases <;> simp [hu]

theorem storeFooter_params {c : Byte} (h : s.storeFooter c = .next t) : t.params = s.params := by
  obtain ⟨-, hu⟩ | ⟨-, hu⟩ | ⟨-, hu⟩ := s.storeFooter_cases c
  · cases hu.symm.trans h; rfl
  · cases hu.symm.trans h
    rw [State.endPacket_params, (State.completeFooter_frame _).1]
  · cases hu.symm.trans h

theorem execDfRhByte_params {b : Byte} (h : execDfRhByte b s = .next t) : t.params = s.params := by
  obtain ⟨-, hu⟩ | ⟨-, hu⟩ | ⟨-, hu⟩ := execDfRhByte_cases b s
  · cases hu.symm.trans h; rfl
  · cases hu.symm.trans h; exact processHeader_params _
  · cases hu.symm.trans h

/-! ### The parameters under a tick -/

theorem opGnp_params (s : State) : (opGnp s).All (fun u => u.params = s.params) := by
  obtain ⟨-, hu⟩ | ⟨p, e, -, -, ⟨-, hu⟩ | ⟨-, -, hu⟩ | ⟨-, -, -, hu⟩⟩ := opGnp_cases s <;>
    simp [hu, TickRes.All]

theorem opShb_params (s : State) : (opShb s).All (fun u => u.params = s.params) := by
  obtain ⟨-, hu⟩ | ⟨-, -, hu⟩ | ⟨e, -, -, ⟨-, hu⟩ | ⟨-, ⟨-, hu⟩ | ⟨-, hu⟩⟩⟩ := opShb_cases s <;>
    simp [hu, TickRes.All, State.enterWait_eq, State.headerWritten]

theorem opWhbi_params (s : State) : (opWhbi s).All (fun u => u.params = s.params) := by
  obtain ⟨-, hu⟩ | ⟨-, -, hu⟩ | ⟨-, -, hu⟩ := opWhbi_cases s <;> simp [hu, TickRes.All]

theorem bodySent_params (s : State) (e : TxEntry) : (s.bodySent e).params = s.params := rfl

theorem opSb_params (s : State) : (opSb s).All (fun u => u.params = s.params) := by
  obtain ⟨-, hu⟩ | ⟨-, -, hu⟩ | ⟨e, -, -, ⟨-, hu⟩ | ⟨-, ⟨-, hu⟩ | ⟨-, ⟨-, hu⟩ | ⟨-, ⟨-, hu⟩ | ⟨-, hu⟩⟩⟩⟩⟩ :=
    opSb_cases s <;> simp [hu, TickRes.All, State.enterWait_eq, bodySent_params]

theorem opWbi_params (s : State) : (opWbi s).All (fun u => u.params = s.params) := by
  obtain ⟨-, hu⟩ | ⟨-, -, hu⟩ | ⟨-, -, hu⟩ := opWbi_cases s <;> simp [hu, TickRes.All]

theorem opWpbi_params (s : State) : (opWpbi s).All (fun u => u.params = s.params) := by
  obtain ⟨-, hu⟩ | ⟨-, hu⟩ := opWpbi_cases s <;> simp [hu, TickRes.All]

theorem opHalt_params (s : State) : (opHalt s).All (fun u => u.params = s.params) := rfl

theorem opOf_params (s : State) : (opOf s).All (fun u => u.params = s.params) := by
  unfold opOf
  split
  · exact opGnp_params s
  · exact opShb_params s
  · exact opWhbi_params s
  · exact opSb_params s
  · exact opWbi_params s
  · exact opWpbi_params s
  · exact opHalt_params s
  · trivial

/-- A tick keeps the parameters that its first operation keeps (R200). -/
theorem finishTick_params {k : Nat} {r : TickRes} (hr : r.All (fun u => u.params = s.params))
    (h : finishTick k r = .next t) : t.params = s.params :=
  finishTick_all (Q := fun u => u.params = s.params) (fun _ _ hu => hu) (fun u hu => hu ▸ opOf_params u) k r hr h

/-! ### The parameters under the host's writes -/

theorem actIf_params {act : State → State} (hact : ∀ u, (act u).params = u.params) (s : State) (b : Bool) :
    (s.actIf b act).params = s.params := by
  cases b with
  | false => rfl
  | true => exact hact s

theorem writeCtrl_params (s : State) (v : W64) : (s.writeCtrl v).params = s.params := by
  simp only [State.writeCtrl, actIf_params State.statsClear_params, actIf_params State.rxFlush_params,
    actIf_params State.rxSoftReset_params, actIf_params State.txFlush_params, actIf_params State.txSoftReset_params]

theorem commitTx_params (s : State) : s.commitTx.params = s.params := by
  unfold State.commitTx
  split
  · exact State.raise_params s _
  · split
    · exact State.raise_params s _
    · rfl

/-! ### The parameters under every operation and every step -/

/-- The cases named are the operations that branch or fault; every other operation names its one next state. -/
theorem exec_params {i : Instr} (h : exec i s = .next t) : t.params = s.params := by
  cases i with
  | dfRhByte b => exact execDfRhByte_params h
  | dfRcByte b => exact storeContent_params h
  | dfDstcEsc => exact storeContent_params h
  | dfRfByte b => exact storeFooter_params h
  | dfDstfEsc => exact storeFooter_params h
  | dfReserved low b => cases h
  | frGnp => exact finishTick_params (opGnp_params s) h
  | frShb => exact finishTick_params (opShb_params s) h
  | frWhbi => exact finishTick_params (opWhbi_params s) h
  | frSb => exact finishTick_params (opSb_params s) h
  | frWbi => exact finishTick_params (opWbi_params s) h
  | frWpbi => exact finishTick_params (opWpbi_params s) h
  | frHalt => exact finishTick_params (opHalt_params s) h
  | frReserved => cases h
  | hwCtrl v => cases h; exact writeCtrl_params s v
  | hwTxCommit v => cases h; exact commitTx_params s
  | _ => cases h; rfl

end Params

/-- Settles O53: by the next input event; the operation it selects keeps the parameters, and so does taking the event. -/
theorem parametersAreConstant : Obligations.ParametersAreConstant := by
  intro s t h
  match hp : s.env.pending with
  | [] => cases (step_idle hp).symm.trans h; rfl
  | .hardReset :: rest => cases (step_hardReset hp).symm.trans h; rfl
  | .tick now ws :: rest => exact (exec_params ((step_tick hp).symm.trans h)).trans (State.latch_params ..)
  | .host we a v now :: rest => exact (exec_params ((step_host hp).symm.trans h)).trans (State.latch_params ..)
  | .link b now :: rest =>
    cases hen : s.ctl.rxEn with
    | false => cases (step_link_disabled hp hen).symm.trans h; rfl
    | true => exact (exec_params ((step_link_enabled hp hen).symm.trans h)).trans (State.setTaken_params ..)

end Sys2Proof.Proofs

/-! PROOFS. Statements of spec/10_state.md: what the items hold after a hard reset (R54), that the state right after reset is
sound, and that every step keeps a sound state sound. -/

namespace Sys2Proof.Machine

open Sys2Proof

/-! ### The parts of a sound state, for states that agree in what a part reads -/

section Parts
variable {s t : State}

theorem DeframerSound.congr (h : DeframerSound s) (hp : t.params = s.params) (hrx : t.rx = s.rx)
    (ha : (t.rxp s.rx.rxCur).active = (s.rxp s.rx.rxCur).active)
    (hs : (t.rxp s.rx.rxCur).slot = (s.rxp s.rx.rxCur).slot) : DeframerSound t := by
  cases h
  constructor <;> simpa only [hp, hrx, ha, hs]

theorem Framer.sending_of_sendingBody {f : Framer} (h : f.sendingBody) : f.sending := .inr (.inr h)

/-- The framer's invariant reads, besides its own registers, the head of the FIFO it sends and the sizes recorded with it. -/
theorem FramerSound.congr (h : FramerSound s) (hp : t.params = s.params) (htx : t.tx = s.tx)
    (hf : t.ctl.fatal = s.ctl.fatal) (he : t.env.epoch = s.env.epoch)
    (hcur : s.tx.sending → (t.txp s.tx.txCur).brk = (s.txp s.tx.txCur).brk ∧
      (t.txp s.tx.txCur).total = (s.txp s.tx.txCur).total ∧ t.headTx? s.tx.txCur = s.headTx? s.tx.txCur) :
    FramerSound t where
  fstate := htx ▸ h.fstate
  txCur := by rw [htx, hp]; exact h.txCur
  fatal := by rw [htx, hf]; exact h.fatal
  hdrPos := htx ▸ h.hdrPos
  header := htx ▸ h.header
  head := by
    rw [htx]; intro hs
    obtain ⟨hbrk, htot, hhead⟩ := hcur hs
    simpa only [fullLen, hp, hbrk, htot, hhead] using h.head hs
  body := by
    rw [htx]; intro hs
    obtain ⟨hbrk, -, hhead⟩ := hcur (Framer.sending_of_sendingBody hs)
    simpa only [State.body_congr _ _ hbrk he, hp, hhead] using h.body hs

theorem ControlSound.congr (h : ControlSound s) (hp : t.params = s.params)
    (hc : t.ctl = { s.ctl with fatal := t.ctl.fatal }) : ControlSound t := by
  cases h
  constructor <;> rw [hc] <;> simpa only [hp]

/-- A framer that sends nothing owes nothing to a FIFO. -/
theorem FramerSound.of_not_sending (hst : t.tx.fstate ≠ .reserved7) (hcur : t.tx.txCur.toNat < t.params.nPrio)
    (hfatal : t.ctl.fatal = true ↔ t.tx.fstate = .halted) (hpos : t.tx.hdrPos.toNat ≤ 13) (hs : ¬ t.tx.sending) :
    FramerSound t where
  fstate := hst
  txCur := hcur
  fatal := hfatal
  hdrPos := hpos
  header := fun h => absurd (.inl h) hs
  head := fun h => absurd h hs
  body := fun h => absurd (Framer.sending_of_sendingBody h) hs

/-- The counters of the deframer are in range, whatever its state. -/
structure DeframerInRange (s : State) : Prop where
  hdrCnt : s.rx.hdrCnt.toNat < 13
  rxCur  : s.rx.rxCur.toNat < s.params.nPrio
  ftrPos : s.rx.ftrPos.toNat < 4
  cause  : s.rx.lastCause.toNat ≤ 8

theorem DeframerSound.inRange (h : DeframerSound s) : DeframerInRange s := ⟨h.hdrCnt, h.rxCur, h.ftrPos, h.cause⟩

theorem DeframerSound.of_waiting (hr : DeframerInRange t) (hd : t.rx.dstate = .waitingForPacket) : DeframerSound t := by
  obtain ⟨hcnt, hcur, hpos, hcause⟩ := hr
  constructor <;> simp [hd, DState.inBody, hcnt, hcur, hpos, hcause]

theorem DeframerSound.of_header (hr : DeframerInRange t) (hd : t.rx.dstate = .readingHeader) (h1 : 1 ≤ t.rx.hdrCnt.toNat)
    (hS : t.rx.hdrBuf[0] = t.params.startTok) : DeframerSound t := by
  obtain ⟨hcnt, hcur, hpos, hcause⟩ := hr
  constructor <;> simp [hd, DState.inBody, hcnt, hcur, hpos, hcause, h1, hS]

/-- The deframer at offset `cur_off` of an active packet: in its content, or in its footer when the content is complete. -/
theorem DeframerSound.of_body (hr : DeframerInRange t)
    (hd : t.rx.dstate = if t.rx.curOff = (t.rxp t.rx.rxCur).slot.len then .readingFooter else .readingContent)
    (ha : (t.rxp t.rx.rxCur).active = true) (hle : t.rx.curOff.toNat ≤ (t.rxp t.rx.rxCur).slot.len.toNat)
    (hw : (t.rxp t.rx.rxCur).slot.content.WrittenBelow t.rx.curOff.toNat) : DeframerSound t := by
  obtain ⟨hcnt, hcur, hpos, hcause⟩ := hr
  by_cases heq : t.rx.curOff = (t.rxp t.rx.rxCur).slot.len
  · rw [if_pos heq] at hd
    exact ⟨by simp [hd], hcnt, by simp [hd], hcur, hpos, fun _ => ha, by simp [hd], fun _ => heq, fun _ => hw, hcause⟩
  · rw [if_neg heq] at hd
    have hlt : t.rx.curOff.toNat < (t.rxp t.rx.rxCur).slot.len.toNat :=
      Nat.lt_of_le_of_ne hle fun e => heq (BitVec.eq_of_toNat_eq e)
    exact ⟨by simp [hd], hcnt, by simp [hd], hcur, hpos, fun _ => ha, fun _ => hlt, by simp [hd], fun _ => hw, hcause⟩

/-- The record of the last discard bears on nothing else (spec/60_exceptions.md R322). -/
theorem DeframerSound.withRecord (h : DeframerSound s) (n : W64) (c : Byte) (hc : c.toNat ≤ 8) :
    DeframerSound { s with rx := { s.rx with discardCount := n, lastCause := c } } :=
  { h with cause := hc }

end Parts

/-! ### Updates of one side of the block -/

section Sides
variable {s t : State}

/-- `t` is `s` but for the receive side and the interfaces. -/
structure ReceiveOnly (s t : State) : Prop where
  params : t.params = s.params
  tx     : t.tx = s.tx
  txPrio : t.txPrio = s.txPrio
  ctl    : t.ctl = s.ctl
  epoch  : t.env.epoch = s.env.epoch

theorem Sound.of_receiveOnly (h : Sound s) (hst : ReceiveOnly s t) (hd : DeframerSound t)
    (hr : ∀ q, RxPrioSound s.params (t.rxp q)) : Sound t := by
  obtain ⟨hp, htx, htp, hc, he⟩ := hst
  refine ⟨hp ▸ h.params, hd, fun q => hp ▸ hr q, ?framer, fun q => ?txPrio, h.control.congr hp (by rw [hc])⟩
  case framer =>
    exact h.framer.congr hp htx (by rw [hc]) he fun _ => by simp only [State.headTx?, State.txp_congr htp, and_self]
  case txPrio => rw [hp, State.txp_congr htp]; exact h.txPrio q

/-- `t` is `s` but for the transmit side, `FATAL` and the interfaces. -/
structure TransmitOnly (s t : State) : Prop where
  params : t.params = s.params
  rx     : t.rx = s.rx
  rxPrio : t.rxPrio = s.rxPrio
  ctl    : t.ctl = { s.ctl with fatal := t.ctl.fatal }

theorem Sound.of_transmitOnly (h : Sound s) (hst : TransmitOnly s t) (hf : FramerSound t)
    (htp : ∀ q, TxPrioSound s.params (t.txp q)) : Sound t := by
  obtain ⟨hp, hrx, hrp, hc⟩ := hst
  refine ⟨hp ▸ h.params, ?deframer, fun q => ?rxPrio, hf, fun q => hp ▸ htp q, h.control.congr hp hc⟩
  case deframer => exact h.deframer.congr hp hrx (by rw [State.rxp_congr hrp]) (by rw [State.rxp_congr hrp])
  case rxPrio => rw [hp, State.rxp_congr hrp]; exact h.rxPrio q

/-- The interfaces are no part of the invariant, but for the number of hard resets that names the unspecified content. -/
theorem Sound.withEnv (h : Sound s) (e : Env) (he : e.epoch = s.env.epoch) : Sound { s with env := e } :=
  h.of_receiveOnly ⟨rfl, rfl, rfl, rfl, he⟩ (h.deframer.congr rfl rfl rfl rfl) h.rxPrio

theorem Sound.withControl (h : Sound s) (c : Control) (hf : c.fatal = s.ctl.fatal)
    (hc : ControlSound { s with ctl := c }) : Sound { s with ctl := c } :=
  { h with
    deframer := h.deframer.congr rfl rfl rfl rfl
    framer := h.framer.congr rfl rfl hf rfl fun _ => ⟨rfl, rfl, rfl⟩
    control := hc }

theorem forall_setRxp {R : RxPrio → Prop} (h : ∀ q, R (s.rxp q)) {p : Prio} {x : RxPrio} (hx : R x) (q : Prio) :
    R ((s.setRxp p x).rxp q) := by
  rw [State.setRxp_rxp]; split
  · exact hx
  · exact h q

theorem forall_setTxp {R : TxPrio → Prop} (h : ∀ q, R (s.txp q)) {p : Prio} {x : TxPrio} (hx : R x) (q : Prio) :
    R ((s.setTxp p x).txp q) := by
  rw [State.setTxp_txp]; split
  · exact hx
  · exact h q

/-- An update of one receive side that keeps what the deframer reads of it. -/
theorem Sound.setRxp (h : Sound s) {p : Prio} {x : RxPrio} (hx : RxPrioSound s.params x)
    (ha : x.active = (s.rxp p).active) (hs : x.slot = (s.rxp p).slot) : Sound (s.setRxp p x) := by
  have hsame : ∀ q, ((s.setRxp p x).rxp q).active = (s.rxp q).active ∧ ((s.setRxp p x).rxp q).slot = (s.rxp q).slot := by
    intro q; rw [State.setRxp_rxp]; split
    · next e => subst e; exact ⟨ha, hs⟩
    · exact ⟨rfl, rfl⟩
  exact h.of_receiveOnly ⟨rfl, rfl, rfl, rfl, rfl⟩ (h.deframer.congr rfl rfl (hsame _).1 (hsame _).2)
    (forall_setRxp h.rxPrio hx)

/-- An update of one transmit side that keeps what the framer reads of it. -/
theorem Sound.setTxp (h : Sound s) {p : Prio} {x : TxPrio} (hx : TxPrioSound s.params x)
    (hb : x.brk = (s.txp p).brk) (ht : x.total = (s.txp p).total)
    (hq : (s.txp p).queue ≠ [] → x.queue.head? = (s.txp p).queue.head?) : Sound (s.setTxp p x) := by
  refine h.of_transmitOnly ⟨rfl, rfl, rfl, rfl⟩ (h.framer.congr rfl rfl rfl rfl fun hsend => ?_) (forall_setTxp h.txPrio hx)
  obtain ⟨e, he, -⟩ := h.framer.head hsend
  simp only [State.headTx?, State.setTxp_txp] at he ⊢
  split
  · next hc =>
    subst hc
    exact ⟨hb, ht, hq fun hnil => by rw [hnil] at he; cases he⟩
  · exact ⟨rfl, rfl, rfl⟩

end Sides

/-! ### Receive-side items under the deframer's updates -/

section Receive
variable {s t : State} {P : Params} {x : RxPrio}

theorem putBytes_getElem_of_lt (xs : List Byte) : ∀ (v : Vector Byte 13) (i j : Nat) (hj : j < 13), j < i →
    (putBytes v i xs)[j] = v[j] := by
  induction xs with
  | nil => intro v i j hj hi; rfl
  | cons x xs ih =>
    intro v i j hj hi
    rw [putBytes, ih _ _ _ hj (by omega), Vector.getElem_setIfInBounds_ne _ (by omega)]

theorem putBytes_zero_head (v : Vector Byte 13) (x : Byte) (xs : List Byte) : (putBytes v 0 (x :: xs))[0] = x := by
  rw [putBytes, putBytes_getElem_of_lt _ _ _ _ _ (by omega)]
  exact Vector.getElem_setIfInBounds_self _

theorem RxPrioSound.setBrk (h : RxPrioSound P x) {b : W16} (hb : b.toNat ≤ x.slot.len.toNat)
    (hw : x.slot.content.WrittenBelow b.toNat) : RxPrioSound P { x with brk := b } :=
  { h with brk := fun _ => hb, written := fun _ => hw }

theorem RxPrioSound.setInactive (h : RxPrioSound P x) : RxPrioSound P { x with active := false } :=
  { h with brk := nofun, written := nofun }

theorem RxPrioSound.store (h : RxPrioSound P x) {i : Nat} (hi : i < P.capacity) (c : Byte) :
    RxPrioSound P { x with slot := { x.slot with content := x.slot.content.write i c } } :=
  { h with written := fun ha => (h.written ha).write i c, content := h.content.write hi c }

theorem RxPrioSound.fresh (h : RxPrioSound P x) {len : W16} (hl : len.toNat ≤ P.capacity) (seq : W64) (init ack : Bool) :
    RxPrioSound P { x with active := true, brk := 0,
                           slot := { x.slot with seq := seq, len := len, init := init, ack := ack } } :=
  { h with len := hl, brk := fun _ => Nat.zero_le _, written := fun _ => Memory.WrittenBelow_zero _ }

theorem RxPrioSound.push (h : RxPrioSound P x) (hd : x.queue.length ≠ P.qdepth) {e : RxEntry}
    (hlen : e.content.length = e.len.toNat) (hcap : e.len.toNat ≤ P.capacity) :
    RxPrioSound P { x with queue := x.queue ++ [e] } :=
  { h with
    depth := by have := h.depth; simp only [List.length_append, List.length_singleton]; omega
    entries := fun d hd => by
      rcases List.mem_append.1 hd with hd | hd
      · exact h.entries d hd
      · cases List.mem_singleton.1 hd; exact ⟨hlen, hcap⟩ }

theorem RxPrioSound.subqueue (h : RxPrioSound P x) {q : List RxEntry} (hq : q.Sublist x.queue) :
    RxPrioSound P { x with queue := q } :=
  { h with
    depth := hq.length_le.trans h.depth
    entries := fun e he => h.entries e (hq.subset he) }

/-! ### Procedures of the deframer (spec/40_deframer.md section 2) -/

/-- An update of the deframer's registers alone. -/
theorem Sound.withDeframer (h : Sound s) (d : Deframer) (hd : DeframerSound { s with rx := d }) :
    Sound { s with rx := d } :=
  h.of_receiveOnly ⟨rfl, rfl, rfl, rfl, rfl⟩ hd h.rxPrio

theorem Sound.discard (h : Sound s) {c : Byte} (hc : c.toNat ≤ 8) : Sound (s.raise (.discard c)) :=
  h.withDeframer _ (h.deframer.withRecord _ c hc)

theorem Sound.dropFrame (h : Sound s) {c : Byte} (hc : c.toNat ≤ 8) : Sound (s.dropFrame c) :=
  h.withDeframer _ (DeframerSound.of_waiting { h.deframer.inRange with cause := hc } rfl)

/-- `StartHeader` with the start token and at most one byte more (R142). -/
theorem Sound.startHeader (h : Sound s) {xs : List Byte} (hx : xs.length ≤ 1) :
    Sound (s.startHeader (s.params.startTok :: xs)) := by
  have hcnt : (BitVec.ofNat 4 (xs.length + 1)).toNat = xs.length + 1 := by
    rw [BitVec.toNat_ofNat]; omega
  refine h.withDeframer _ (DeframerSound.of_header { h.deframer.inRange with hdrCnt := ?cnt } rfl ?one ?head)
  case cnt => exact hcnt.trans_lt (by omega)
  case one => exact hcnt ▸ (by omega)
  case head => exact putBytes_zero_head _ _ _

/-- Inside a frame the offset reached is at most the packet's length. -/
theorem DeframerSound.curOff_le (h : DeframerSound s) (hd : s.rx.dstate.inBody) :
    s.rx.curOff.toNat ≤ (s.rxp s.rx.rxCur).slot.len.toNat := by
  rcases hd with hd | hd | hd | hd
  · exact (h.content (.inl hd)).le
  · exact (h.content (.inr hd)).le
  · exact (congrArg BitVec.toNat (h.footer (.inl hd))).le
  · exact (congrArg BitVec.toNat (h.footer (.inr hd))).le

/-- `Interrupt` (R143): inside a body the offset reached is a legal break. -/
theorem Sound.interrupt (h : Sound s) (hd : s.rx.dstate.inBody) {xs : List Byte} (hx : xs.length ≤ 1) :
    Sound (s.interrupt (s.params.startTok :: xs)) :=
  (h.setRxp ((h.rxPrio _).setBrk (h.deframer.curOff_le hd) (h.deframer.written hd)) rfl rfl).startHeader hx

/-- `StoreContent` (R144). -/
theorem Sound.storeContent (h : Sound s) (hd : s.rx.dstate = .readingContent ∨ s.rx.dstate = .disambiguateContent)
    {c : Byte} (hst : s.storeContent c = .next t) : Sound t := by
  obtain ⟨hcap, u, hu, rfl⟩ | ⟨-, hu⟩ := s.storeContent_cases c
  · cases hu.symm.trans hst
    have hbody : s.rx.dstate.inBody := hd.elim .inl fun hd => .inr (.inl hd)
    have hlt := h.deframer.content hd
    have hnext : (s.rx.curOff + 1).toNat = s.rx.curOff.toNat + 1 :=
      BitVec.toNat_add_of_lt (Nat.lt_of_le_of_lt hlt (BitVec.isLt _))
    refine h.of_receiveOnly ⟨rfl, rfl, rfl, rfl, rfl⟩
      (DeframerSound.of_body { h.deframer.inRange with ftrPos := ?ftr } ?dstate ?active ?le ?written)
      (forall_setRxp h.rxPrio ((h.rxPrio _).store hcap c))
    case ftr =>
      dsimp only; split
      · decide
      · exact h.deframer.ftrPos
    all_goals simp only [State.mk_rxp, bankGet_rxPrio, State.setRxp_rxp_self]
    case active => exact h.deframer.active hbody
    case le => rw [hnext]; exact hlt
    case written => rw [hnext]; exact (h.deframer.written hbody).write_next c
  · cases hu.symm.trans hst

/-- Taking up a packet leaves the counters in range. -/
theorem DeframerInRange.takeUp (h : DeframerInRange s) {p : Prio} (hp : p.toNat < s.params.nPrio) {off : W16} {d : DState}
    (hpar : t.params = s.params) (hrx : t.rx = { s.rx with rxCur := p, curOff := off, ftrPos := 0, dstate := d }) :
    DeframerInRange t := by
  obtain ⟨hcnt, -, -, hcause⟩ := h
  constructor <;> simp [hpar, hrx, hcnt, hp, hcause]

/-- AcceptFresh (R153). -/
theorem Sound.acceptFresh (h : Sound s) {p : Prio} (hp : p.toNat < s.params.nPrio) {len : W16}
    (hl : len.toNat ≤ s.params.capacity) (seq : W64) (init ack : Bool) : Sound (s.acceptFresh p seq len init ack) := by
  refine h.of_receiveOnly ⟨rfl, rfl, rfl, rfl, rfl⟩
    (DeframerSound.of_body ?range ?dstate ?active ?le ?written)
    (forall_setRxp h.rxPrio ((h.rxPrio p).fresh hl seq init ack))
  case range => exact h.deframer.inRange.takeUp hp rfl (State.acceptFresh_rx ..)
  all_goals simp only [State.acceptFresh, State.mk_rxp, bankGet_rxPrio, State.setRxp_rxp_self]
  case dstate => simp only [eq_comm]
  case le => exact Nat.zero_le _
  case written => exact Memory.WrittenBelow_zero _

/-- AcceptContinuation (R154) of an active packet. -/
theorem Sound.acceptContinuation (h : Sound s) {p : Prio} (hp : p.toNat < s.params.nPrio)
    (ha : (s.rxp p).active = true) : Sound (s.acceptContinuation p) :=
  h.withDeframer _ (DeframerSound.of_body (h.deframer.inRange.takeUp hp rfl (State.acceptContinuation_rx ..)) rfl ha
    ((h.rxPrio p).brk ha) ((h.rxPrio p).written ha))

/-- `ProcessHeader` (R150 to R155). Every outcome sets `hdr_cnt` and `dstate` anew, so their values before it do not matter. -/
theorem Sound.processHeader (h : Sound { s with rx := { s.rx with hdrCnt := 0, dstate := .waitingForPacket } }) :
    Sound s.processHeader := by
  have hnp : s.params.nPrio ≤ 16 := h.params.1.2
  have hprio (hlt : (hdrPrioByte s.rx.hdrBuf).toNat < s.params.nPrio) :
      ((hdrPrioByte s.rx.hdrBuf).setWidth 4).toNat < s.params.nPrio := by
    rw [BitVec.toNat_setWidth]; omega
  obtain ⟨-, hu⟩ | ⟨-, -, -, hu⟩ | ⟨hp, -, hl, hu⟩ | ⟨hp, -, ⟨ha, -⟩, hu⟩ | ⟨-, -, -, hu⟩ :=
    s.processHeader_cases <;> rw [hu]
  · exact h.dropFrame (by decide)
  · exact h.dropFrame (by decide)
  · exact h.acceptFresh (hprio hp) hl _ _ _
  · exact h.acceptContinuation (hprio hp) ha
  · exact h.dropFrame (by decide)

/-- DF_RH_BYTE (R149). -/
theorem Sound.execDfRhByte (h : Sound s) (hd : s.rx.dstate = .readingHeader) {b : Byte}
    (hst : execDfRhByte b s = .next t) : Sound t := by
  obtain ⟨hcnt, hu⟩ | ⟨hcnt, hu⟩ | ⟨-, hu⟩ := execDfRhByte_cases b s
  · cases hu.symm.trans hst
    obtain ⟨hpos, hS⟩ := h.deframer.header hd
    have hnext : (s.rx.hdrCnt + 1).toNat = s.rx.hdrCnt.toNat + 1 := BitVec.toNat_add_of_lt (by simp; omega)
    refine h.withDeframer _ (DeframerSound.of_header { h.deframer.inRange with hdrCnt := ?cnt } hd ?one ?head)
    case cnt => exact hnext.trans_lt (by omega)
    case one => exact hnext ▸ (by omega)
    case head => exact (Vector.getElem_setIfInBounds_ne _ (by omega)).trans hS
  · cases hu.symm.trans hst
    exact Sound.processHeader (h.withDeframer _
      (DeframerSound.of_waiting { h.deframer.inRange with hdrCnt := (by decide : (0 : BitVec 4).toNat < 13) } rfl))
  · cases hu.symm.trans hst

/-- DF_RC_START and DF_RF_START (R156, R162): the start token is held until the next byte tells what it is. -/
theorem Sound.toDisambiguate (h : Sound s) {d : DState}
    (hd : s.rx.dstate = .readingContent ∧ d = .disambiguateContent ∨
      s.rx.dstate = .readingFooter ∧ d = .disambiguateFooter) : Sound (s.toDState d) := by
  obtain ⟨hs, rfl⟩ | ⟨hs, rfl⟩ := hd
  · have hbody : s.rx.dstate.inBody := .inl hs
    exact h.withDeframer _
      { h.deframer with
        dstate := by simp
        header := nofun
        active := fun _ => h.deframer.active hbody
        content := fun _ => h.deframer.content (.inl hs)
        footer := by simp
        written := fun _ => h.deframer.written hbody }
  · have hbody : s.rx.dstate.inBody := .inr (.inr (.inl hs))
    exact h.withDeframer _
      { h.deframer with
        dstate := by simp
        header := nofun
        active := fun _ => h.deframer.active hbody
        content := by simp
        footer := fun _ => h.deframer.footer (.inl hs)
        written := fun _ => h.deframer.written hbody }

/-- What a completed footer leaves of the receive sides and of the cause register (R165 to R169). -/
theorem completeFooter_sound (hr : ∀ q, RxPrioSound s.params (s.rxp q)) (hc : s.rx.lastCause.toNat ≤ 8) :
    (∀ q, RxPrioSound s.params (s.completeFooter.rxp q)) ∧ s.completeFooter.rx.lastCause.toNat ≤ 8 := by
  have hdiscard (c : Byte) (hc : c.toNat ≤ 8) : (∀ q, RxPrioSound s.params ((s.raise (.discard c)).rxp q)) ∧
      (s.raise (.discard c)).rx.lastCause.toNat ≤ 8 := ⟨hr, hc⟩
  obtain ⟨-, hu⟩ | ⟨-, -, hu⟩ | ⟨-, -, -, hu⟩ | ⟨-, -, hroom, hu⟩ := s.completeFooter_cases <;> rw [hu]
  · exact hdiscard _ (by decide)
  · exact hdiscard _ (by decide)
  · exact hdiscard _ (by decide)
  · exact ⟨forall_setRxp hr ((hr _).push hroom (State.contentBytes_length ..) (hr _).len), hc⟩

/-- `StoreFooter` (R165). -/
theorem Sound.storeFooter (h : Sound s) (hd : s.rx.dstate = .readingFooter ∨ s.rx.dstate = .disambiguateFooter)
    {c : Byte} (hst : s.storeFooter c = .next t) : Sound t := by
  obtain ⟨hpos, hu⟩ | ⟨-, hu⟩ | ⟨-, hu⟩ := s.storeFooter_cases c
  · cases hu.symm.trans hst
    have hbody : s.rx.dstate.inBody := .inr (.inr hd)
    have hnext : (s.rx.ftrPos + 1).toNat = s.rx.ftrPos.toNat + 1 := BitVec.toNat_add_of_lt (by simp; omega)
    have hoff := h.deframer.footer hd
    exact h.withDeframer _ (DeframerSound.of_body { h.deframer.inRange with ftrPos := hnext.trans_lt (by omega) }
      (if_pos hoff).symm (h.deframer.active hbody) (congrArg BitVec.toNat hoff).le (h.deframer.written hbody))
  · cases hu.symm.trans hst
    generalize hfull : ({ s with rx := { s.rx with ftrBuf := s.rx.ftrBuf.setIfInBounds 3 c, ftrPos := 4 } } : State) = u
    obtain ⟨hp, htx, htp, hctl, henv, hrx⟩ := u.completeFooter_frame
    obtain ⟨hr, hcause⟩ := completeFooter_sound (s := u) (hfull ▸ h.rxPrio) (hfull ▸ h.deframer.cause)
    subst hfull
    refine h.of_receiveOnly ⟨hp, htx, htp, hctl, congrArg Env.epoch henv⟩
      (DeframerSound.of_waiting ⟨?cnt, ?cur, (by decide : (0 : BitVec 3).toNat < 4), hcause⟩ rfl)
      (forall_setRxp hr (hr _).setInactive)
    case cnt => rw [State.endPacket_rx, hrx]; exact h.deframer.hdrCnt
    case cur => rw [State.endPacket_rx, State.endPacket_params, hrx, hp]; exact h.deframer.rxCur
  · cases hu.symm.trans hst

end Receive

/-! ### The position in a body under `Advance` (spec/41_framer.md R204) -/

section Position
variable {S : Byte} {P : Params} {body : List Byte} {b : W16} {esc : Bool}

/-- A byte of the body is next; the second byte of a stuffed pair is next only at a start token. -/
def WithinBody (S : Byte) (body : List Byte) (b : W16) (esc : Bool) : Prop :=
  b.toNat < body.length ∧ (esc = true → body[b.toNat]? = some S)

/-- Every byte of the body has been accepted. -/
def AtBodyEnd (body : List Byte) (b : W16) (esc : Bool) : Prop := b.toNat = body.length ∧ esc = false

theorem wire_atBodyEnd (h : AtBodyEnd body b esc) : wire P body b esc = [] := by
  obtain ⟨hb, rfl⟩ := h
  simp [wire, hb]

theorem wire_escape (hb : (b + 1).toNat = b.toNat + 1) :
    wire P body b true = P.escTok :: wire P body (b + 1) false := by
  simp only [wire, hb, if_true, Bool.false_eq_true, if_false]

theorem wire_start (hb : body[b.toNat]? = some P.startTok) :
    wire P body b false = P.startTok :: wire P body b true := by
  obtain ⟨hlt, hget⟩ := List.getElem?_eq_some_iff.1 hb
  simp only [wire, Bool.false_eq_true, if_false, if_true, List.drop_eq_getElem_cons hlt, hget, stuff_cons_start]

theorem wire_other (hlt : b.toNat < body.length) (hne : body[b.toNat]? ≠ some P.startTok)
    (hb : (b + 1).toNat = b.toNat + 1) : wire P body b false = body[b.toNat] :: wire P body (b + 1) false := by
  have hne' : body[b.toNat] ≠ P.startTok := fun e => hne (by rw [List.getElem?_eq_getElem hlt, e])
  simp only [wire, Bool.false_eq_true, if_false, List.drop_eq_getElem_cons hlt, stuff_cons_other _ _ _ _ hne', hb]

/-- The byte after a byte of the body is a byte of the body or its end. -/
theorem withinBody_or_end_succ (hlt : b.toNat < body.length) (hb : (b + 1).toNat = b.toNat + 1) :
    WithinBody S body (b + 1) false ∨ AtBodyEnd body (b + 1) false := by
  obtain hlt' | heq := Nat.lt_or_eq_of_le (Nat.succ_le_of_lt hlt)
  · exact .inl ⟨hb ▸ hlt', nofun⟩
  · exact .inr ⟨hb.trans heq, rfl⟩

/-- Accepting no more than the bytes still on the wire stays within the body or reaches its end. -/
theorem advance_withinBody_or_end (hlen : body.length < 2 ^ 16) : ∀ (w : Nat) (b : W16) (esc : Bool),
    WithinBody P.startTok body b esc ∨ AtBodyEnd body b esc → w ≤ (wire P body b esc).length →
    WithinBody P.startTok body (advance P.startTok body w b esc).1 (advance P.startTok body w b esc).2 ∨
      AtBodyEnd body (advance P.startTok body w b esc).1 (advance P.startTok body w b esc).2
  | 0, _, _, hpos, _ => hpos
  | w + 1, b, esc, .inr hend, hw => by rw [wire_atBodyEnd hend] at hw; simp at hw
  | w + 1, b, esc, .inl ⟨hlt, hesc⟩, hw => by
    have hb : (b + 1).toNat = b.toNat + 1 := BitVec.toNat_add_of_lt (Nat.lt_of_le_of_lt hlt hlen)
    rw [advance]
    cases esc with
    | true =>
      rw [wire_escape hb] at hw
      exact advance_withinBody_or_end hlen w _ _ (withinBody_or_end_succ hlt hb) (Nat.le_of_succ_le_succ hw)
    | false =>
      rw [if_neg Bool.false_ne_true]
      by_cases hS : body[b.toNat]? = some P.startTok
      · rw [wire_start hS] at hw
        rw [if_pos hS]
        exact advance_withinBody_or_end hlen w _ _ (.inl ⟨hlt, fun _ => hS⟩) (Nat.le_of_succ_le_succ hw)
      · rw [wire_other hlt hS hb] at hw
        rw [if_neg hS]
        exact advance_withinBody_or_end hlen w _ _ (withinBody_or_end_succ hlt hb) (Nat.le_of_succ_le_succ hw)

end Position

/-! ### Transmit-side items under the framer's updates -/

section Transmit
variable {s t : State} {P : Params} {x : TxPrio} {e : TxEntry} {p : Prio}

theorem mem_queue_of_headTx? (h : s.headTx? p = some e) : e ∈ (s.txp p).queue := List.mem_of_mem_head? h

/-- The statistics are no part of the invariant. -/
theorem TxPrioSound.congr (h : TxPrioSound P x) {y : TxPrio} (ht : y.total = x.total) (hb : y.brk = x.brk)
    (hs : y.slot = x.slot) (hq : y.queue = x.queue) : TxPrioSound P y := by
  cases h
  constructor <;> simpa only [ht, hb, hs, hq]

theorem TxPrioSound.setBrk (h : TxPrioSound P x) {b : W16} (hb : b.toNat ≤ P.capacity) :
    TxPrioSound P { x with brk := b } :=
  { h with brk := hb }

theorem TxPrioSound.setTotal (h : TxPrioSound P x) {n : W16} (hn : 17 ≤ n.toNat) : TxPrioSound P { x with total := n } :=
  { h with total := .inr hn }

theorem TxPrioSound.setSlot (h : TxPrioSound P x) {sl : TxSlot} (hs : sl.content.Sound P.capacity) :
    TxPrioSound P { x with slot := sl } :=
  { h with content := hs }

theorem TxPrioSound.subqueue (h : TxPrioSound P x) {q : List TxEntry} (hq : q.Sublist x.queue) :
    TxPrioSound P { x with queue := q } :=
  { h with
    depth := hq.length_le.trans h.depth
    entries := fun d hd => h.entries d (hq.subset hd) }

theorem TxPrioSound.push (h : TxPrioSound P x) (hroom : x.queue.length ≠ P.qdepth) (hl : e.len.toNat ≤ P.capacity)
    (hc : e.content.Sound P.capacity) : TxPrioSound P { x with queue := x.queue ++ [e] } :=
  { h with
    depth := by have := h.depth; simp only [List.length_append, List.length_singleton]; omega
    entries := fun d hd => by
      rcases List.mem_append.1 hd with hd | hd
      · exact h.entries d hd
      · cases List.mem_singleton.1 hd; exact ⟨hl, hc⟩ }

/-- The head rewrite keeps every transmit side sound when the new head is legal (spec/10_state.md R38). -/
theorem forall_setHeadTx (h : ∀ q, TxPrioSound P (s.txp q)) (hl : e.len.toNat ≤ P.capacity)
    (hc : e.content.Sound P.capacity) (q : Prio) : TxPrioSound P ((s.setHeadTx p e).txp q) := by
  unfold State.setHeadTx
  refine forall_setTxp h ?_ q
  have hdepth := (h p).depth
  have hentries := (h p).entries
  cases hq : (s.txp p).queue with
  | nil => exact (h p).congr rfl rfl rfl hq.symm
  | cons d r =>
    rw [hq] at hdepth hentries
    have hrest := (List.forall_mem_cons.1 hentries).2
    exact { h p with depth := hdepth, entries := List.forall_mem_cons.2 ⟨⟨hl, hc⟩, hrest⟩ }

@[simp] theorem State.setHeadTx_txp_brk (s : State) (p q : Prio) (e : TxEntry) :
    ((s.setHeadTx p e).txp q).brk = (s.txp q).brk := by
  rw [State.setHeadTx_txp]; split
  · next h => subst h; rfl
  · rfl

@[simp] theorem State.setHeadTx_txp_total (s : State) (p q : Prio) (e : TxEntry) :
    ((s.setHeadTx p e).txp q).total = (s.txp q).total := by
  rw [State.setHeadTx_txp]; split
  · next h => subst h; rfl
  · rfl

/-- Accounting writes statistics only (spec/41_framer.md R213). -/
theorem forall_account (h : ∀ q, TxPrioSound P (s.txp q)) (q : Prio) : TxPrioSound P ((s.account p e).txp q) := by
  unfold State.account
  dsimp only
  split
  all_goals
    refine forall_setTxp h ?_ q
    exact (h p).congr rfl rfl rfl rfl

theorem forall_popTx (h : ∀ q, TxPrioSound P (s.txp q)) (q : Prio) : TxPrioSound P ((s.popTx p).txp q) :=
  forall_setTxp h ((h p).subqueue (List.tail_sublist _)) q

theorem forall_complete (h : ∀ q, TxPrioSound P (s.txp q)) (q : Prio) : TxPrioSound P ((s.complete e).txp q) := by
  unfold State.complete
  dsimp only
  split
  · exact forall_popTx (forall_account h) q
  · exact forall_popTx h q

/-- A preempted packet's break and remaining length are within its full length (R215). -/
theorem forall_preempt (h : ∀ q, TxPrioSound P (s.txp q)) (hP : P.capacity ≤ 8192)
    (he : e ∈ (s.txp s.tx.txCur).queue) (hfull : fullLen (s.txp s.tx.txCur) e ≤ P.capacity) (q : Prio) :
    TxPrioSound P ((s.preempt e).txp q) := by
  unfold State.preempt
  dsimp only
  refine forall_setHeadTx (fun r => forall_setTxp h ?brk r) ?len ?content q
  case brk => exact (h _).setBrk (by rw [BitVec.toNat_ofNat]; omega)
  case len => rw [BitVec.toNat_ofNat]; omega
  case content => exact ((h _).entries e he).2

/-- `tx_total` of a fresh packet (R206) does not wrap, and is at least the size of an empty frame. -/
theorem freshTotal_ge {n : Nat} (hn : n ≤ 8192) : 17 ≤ (BitVec.ofNat 16 (hdrLen + n + ftrLen)).toNat := by
  simp only [BitVec.toNat_ofNat, hdrLen, ftrLen]
  omega

theorem recordFresh_total (hl : e.len.toNat ≤ 8192) : 17 ≤ ((s.recordFresh p e).txp p).total.toNat := by
  simp only [State.recordFresh, State.setHeadTx_txp_total, State.setTxp_txp_self]
  exact freshTotal_ge hl

theorem forall_recordFresh (h : ∀ q, TxPrioSound P (s.txp q)) (hP : P.capacity ≤ 8192) (he : e ∈ (s.txp p).queue)
    (q : Prio) : TxPrioSound P ((s.recordFresh p e).txp q) := by
  obtain ⟨hl, hc⟩ := (h p).entries e he
  unfold State.recordFresh
  dsimp only
  refine forall_setHeadTx (fun r => forall_setTxp h ?sizes r) ?len ?content q
  case sizes => exact ((h p).setTotal (freshTotal_ge (hl.trans hP))).setBrk (Nat.zero_le _)
  case len => exact hl
  case content => exact hc

/-! ### The framer's registers through a frame -/

/-- A frame under way whose head stays: the registers may move on, FATAL may not be touched. -/
theorem FramerSound.withTx (h : FramerSound s) (hs : s.tx.sending) {f : Framer} {v : Env} (he : v.epoch = s.env.epoch)
    (hcur : f.txCur = s.tx.txCur) (hst : f.fstate ≠ .reserved7 ∧ f.fstate ≠ .halted) (hpos : f.hdrPos.toNat ≤ 13)
    (hheader : f.fstate = .sendingHeaderBurst → f.hdrPos.toNat < 13)
    (hbody : f.sendingBody → ∀ e, s.headTx? s.tx.txCur = some e →
      WithinBody s.params.startTok (s.body s.tx.txCur e) f.bpos f.escPending) :
    FramerSound { s with tx := f, env := v } where
  fstate := hst.1
  txCur := by rw [hcur]; exact h.txCur
  fatal := by
    have hnot : s.tx.fstate ≠ .halted := by rintro e; simp [Framer.sending, e] at hs
    exact (h.fatal.trans (iff_false_intro hnot)).trans (iff_false_intro hst.2).symm
  hdrPos := hpos
  header := hheader
  head := fun _ => by simp only [hcur]; exact h.head hs
  body := fun hb e hh => by
    simp only [hcur] at hh ⊢
    rw [State.body_congr (s := s) (t := { s with tx := f, env := v }) s.tx.txCur e rfl he]
    exact hbody hb e hh

/-- The same for the whole state. -/
theorem Sound.withTx (h : Sound s) (hs : s.tx.sending) {f : Framer} {v : Env} (he : v.epoch = s.env.epoch)
    (hcur : f.txCur = s.tx.txCur) (hst : f.fstate ≠ .reserved7 ∧ f.fstate ≠ .halted) (hpos : f.hdrPos.toNat ≤ 13)
    (hheader : f.fstate = .sendingHeaderBurst → f.hdrPos.toNat < 13)
    (hbody : f.sendingBody → ∀ e, s.headTx? s.tx.txCur = some e →
      WithinBody s.params.startTok (s.body s.tx.txCur e) f.bpos f.escPending) :
    Sound { s with tx := f, env := v } :=
  h.of_transmitOnly ⟨rfl, rfl, rfl, rfl⟩ (h.framer.withTx hs he hcur hst hpos hheader hbody) h.txPrio

end Transmit

/-! ### The operations of a tick (spec/41_framer.md R206 to R218) -/

section Tick
variable {s t : State} {e : TxEntry} {p : Prio}

theorem Sound.capacity_le (h : Sound s) : s.params.capacity ≤ 8192 := h.params.2.1.2

theorem FramerSound.fatal_eq_false (h : FramerSound s) (hst : s.tx.fstate ≠ .halted) : s.ctl.fatal = false :=
  Bool.eq_false_iff.2 fun hf => hst (h.fatal.1 hf)

/-- A frame is begun for a priority whose head fits (R206). -/
theorem FramerSound.beginFrame (hp : p.toNat < s.params.nPrio) (hf : s.ctl.fatal = false) (he : s.headTx? p = some e)
    (hfull : fullLen (s.txp p) e ≤ s.params.capacity) (ht : 17 ≤ (s.txp p).total.toNat) : FramerSound (s.beginFrame p) where
  fstate := by simp
  txCur := hp
  fatal := by simp [hf]
  hdrPos := by simp
  header := by simp
  head := fun _ => ⟨e, he, hfull, ht⟩
  body := by simp [Framer.sendingBody]

/-- The framer lets go of its frame, whatever becomes of the FIFOs in `u`: no head is owed any longer. -/
theorem Sound.leaveFrame (h : Sound s) (hs : s.tx.fstate ≠ .halted) {u : State} (hp : u.params = s.params) (hrx : u.rx = s.rx)
    (hrp : u.rxPrio = s.rxPrio) (hc : u.ctl = s.ctl) (htp : ∀ q, TxPrioSound s.params (u.txp q)) {f : Framer}
    (hcur : f.txCur = s.tx.txCur) (hpos : f.hdrPos = s.tx.hdrPos)
    (hf : f.fstate ≠ .reserved7 ∧ f.fstate ≠ .halted ∧ ¬ f.sending) : Sound { u with tx := f } := by
  obtain ⟨hres, hhalt, hsend⟩ := hf
  refine h.of_transmitOnly ⟨hp, hrx, hrp, ?ctl⟩
    (FramerSound.of_not_sending hres ?cur ?fatal (hpos ▸ h.framer.hdrPos) hsend) htp
  all_goals dsimp only
  case ctl => rw [hc]
  case cur => rw [hcur, hp]; exact h.framer.txCur
  case fatal => rw [hc, h.framer.fatal_eq_false hs]; exact iff_of_false Bool.false_ne_true hhalt

theorem opGnp_sound (h : Sound s) (hst : s.tx.fstate = .gettingNextPacket) : (opGnp s).All Sound := by
  have hfatal : s.ctl.fatal = false := h.framer.fatal_eq_false (by simp [hst])
  obtain ⟨-, hu⟩ | ⟨p, e, hsel, he, hu⟩ := opGnp_cases s
  · rw [hu]; exact h
  have hp := (select?_mem s p hsel).1
  have hmem := mem_queue_of_headTx? he
  have hlen := ((h.txPrio p).entries e hmem).1
  have hcap := h.capacity_le
  obtain ⟨-, hu⟩ | ⟨-, -, hu⟩ | ⟨-, htot, hfull, hu⟩ := hu <;> rw [hu]
  case inl =>
    have he' : (s.recordFresh p e).headTx? p = some _ := State.setHeadTx_headTx? _ p _ e (by
      simpa only [State.headTx?, State.setTxp_txp_self] using he)
    have hbrk : ((s.recordFresh p e).txp p).brk = 0 := by simp [State.recordFresh]
    refine h.of_transmitOnly ⟨rfl, rfl, rfl, rfl⟩ (FramerSound.beginFrame hp hfatal he' ?_ (recordFresh_total (by omega)))
      (forall_recordFresh h.txPrio hcap hmem)
    simpa [fullLen, hbrk] using hlen
  case inr.inl =>
    exact h.of_transmitOnly ⟨rfl, rfl, rfl, rfl⟩
      (FramerSound.of_not_sending (by simp) h.framer.txCur (by simp) h.framer.hdrPos (by simp [Framer.sending])) h.txPrio
  case inr.inr =>
    exact h.of_transmitOnly ⟨rfl, rfl, rfl, rfl⟩
      (FramerSound.beginFrame hp hfatal he hfull ((h.txPrio p).total.resolve_left htot)) h.txPrio

/-- A header write stays within the header (R208). -/
theorem headerWritten_hdrPos_le (e : TxEntry) (h : s.tx.hdrPos.toNat ≤ 13) : (s.headerWritten e).tx.hdrPos.toNat ≤ 13 := by
  have hw : s.answer s.headerChunk ≤ 13 - s.tx.hdrPos.toNat := (s.answer_le _).trans (Nat.min_le_right _ _)
  simp only [State.headerWritten, BitVec.toNat_add, BitVec.toNat_ofNat]
  omega

theorem opShb_sound (h : Sound s) (hst : s.tx.fstate = .sendingHeaderBurst) : (opShb s).All Sound := by
  have hs : s.tx.sending := .inl hst
  have hle (e : TxEntry) := headerWritten_hdrPos_le e h.framer.hdrPos
  -- a header write that does not end the burst leaves header bytes to send
  have hwritten (e : TxEntry) (hne : (s.headerWritten e).tx.hdrPos ≠ 13#4) : Sound (s.headerWritten e) := by
    have hlt := Nat.lt_of_le_of_ne (hle e) fun heq => hne (BitVec.eq_of_toNat_eq heq)
    exact h.withTx hs rfl rfl (by simp [hst]) (hle e) (fun _ => hlt) (by simp [Framer.sendingBody, hst])
  obtain ⟨-, hu⟩ | ⟨-, -, hu⟩ | ⟨e, -, -, ⟨-, hu⟩ | ⟨hgo, ⟨-, hu⟩ | ⟨-, hu⟩⟩⟩ :=
    opShb_cases s <;> rw [hu]
  · exact h.withTx hs rfl rfl (by simp) h.framer.hdrPos nofun (by simp [Framer.sendingBody])
  · trivial
  · exact h.withTx hs rfl rfl (by simp) (hle e) nofun (by simp [Framer.sendingBody])
  · exact hwritten e fun heq => hgo (.inl heq)
  · exact hwritten e fun heq => hgo (.inl heq)

theorem opWhbi_sound (h : Sound s) (hst : s.tx.fstate = .waitingForHeaderBurstIngestion) : (opWhbi s).All Sound := by
  have hs : s.tx.sending := .inr (.inl hst)
  obtain ⟨-, hu⟩ | ⟨-, hlt, hu⟩ | ⟨-, -, hu⟩ := opWhbi_cases s <;> rw [hu]
  · exact h
  · exact h.withTx (v := s.env) hs rfl rfl (by simp) h.framer.hdrPos (fun _ => hlt) (by simp [Framer.sendingBody])
  · exact h.withTx (v := s.env) hs rfl rfl (by simp) h.framer.hdrPos nofun (fun _ e _ => ⟨by simp, nofun⟩)

/-- A body write ends within the body or at its end (R204, R211). -/
theorem bodyAt_withinBody_or_end (h : Sound s) (hb : s.tx.sendingBody) (he : s.headTx? s.tx.txCur = some e) :
    WithinBody s.params.startTok (s.body s.tx.txCur e) (s.bodyAt e).1 (s.bodyAt e).2 ∨
      AtBodyEnd (s.body s.tx.txCur e) (s.bodyAt e).1 (s.bodyAt e).2 := by
  have hlen := ((h.txPrio _).entries e (mem_queue_of_headTx? he)).1
  have hcap := h.capacity_le
  exact advance_withinBody_or_end (by rw [State.body_length]; omega) _ _ _ (.inl (h.framer.body hb e he))
    ((s.answer_le _).trans (Nat.min_le_right _ _))

theorem opSb_sound (h : Sound s) (hst : s.tx.fstate = .sendingBurst) : (opSb s).All Sound := by
  have hb : s.tx.sendingBody := .inl hst
  have hs := Framer.sending_of_sendingBody hb
  have hnot : s.tx.fstate ≠ .halted := by simp [hst]
  obtain ⟨-, hu⟩ | ⟨-, -, hu⟩ | ⟨e, -, he, hu⟩ := opSb_cases s
  · rw [hu]
    exact h.withTx hs rfl rfl (by simp) h.framer.hdrPos nofun (fun _ => h.framer.body hb)
  · rw [hu]; trivial
  have hhead {d : TxEntry} (hd : s.headTx? s.tx.txCur = some d) : d = e := Option.some.inj (hd.symm.trans he)
  obtain ⟨-, hu⟩ | ⟨hgo, hu⟩ := hu
  · rw [hu]
    have hcur : ((s.bodySent e).complete e).tx.txCur = s.tx.txCur := by rw [State.complete_tx]; rfl
    have hhdr : ((s.bodySent e).complete e).tx.hdrPos = s.tx.hdrPos := by rw [State.complete_tx]; rfl
    exact h.leaveFrame (u := (s.bodySent e).complete e) hnot (State.complete_params ..) (State.complete_rx ..)
      (State.complete_rxPrio ..)
      (State.complete_ctl ..) (forall_complete (s := s.bodySent e) h.txPrio) hcur hhdr
      (by simp [Framer.sending])
  have hpos := (bodyAt_withinBody_or_end h hb he).resolve_right hgo
  obtain ⟨-, hu⟩ | ⟨-, ⟨-, hu⟩ | ⟨-, ⟨-, hu⟩ | ⟨-, hu⟩⟩⟩ := hu <;> rw [hu]
  · obtain ⟨d, hd, hfull, -⟩ := h.framer.head hs
    cases hhead hd
    have hcur : ((s.bodySent e).preempt e).tx.txCur = s.tx.txCur := by rw [State.preempt_tx]; rfl
    have hhdr : ((s.bodySent e).preempt e).tx.hdrPos = s.tx.hdrPos := by rw [State.preempt_tx]; rfl
    exact h.leaveFrame (u := (s.bodySent e).preempt e) hnot (State.preempt_params ..) (State.preempt_rx ..)
      (State.preempt_rxPrio ..)
      (State.preempt_ctl ..) (forall_preempt (s := s.bodySent e) h.txPrio h.capacity_le (mem_queue_of_headTx? he) hfull)
      hcur hhdr (by simp [Framer.sending])
  · exact h.withTx hs rfl rfl (by simp) h.framer.hdrPos nofun (fun _ d hd => hhead hd ▸ hpos)
  · exact h.withTx hs rfl rfl (by simp [hst]) h.framer.hdrPos (by simp [hst]) (fun _ d hd => hhead hd ▸ hpos)
  · exact h.withTx hs rfl rfl (by simp [hst]) h.framer.hdrPos (by simp [hst]) (fun _ d hd => hhead hd ▸ hpos)

theorem opWbi_sound (h : Sound s) (hst : s.tx.fstate = .waitingForBurstIngestion) : (opWbi s).All Sound := by
  obtain ⟨-, hu⟩ | ⟨-, -, hu⟩ | ⟨-, hdone, hu⟩ := opWbi_cases s <;> rw [hu]
  · exact h
  · exact h.leaveFrame (u := s) (by simp [hst]) rfl rfl rfl rfl h.txPrio rfl rfl (by simp [Framer.sending])
  · have hb : s.tx.sendingBody := .inr ⟨hst, hdone⟩
    exact h.withTx (v := s.env) (Framer.sending_of_sendingBody hb) rfl rfl (by simp) h.framer.hdrPos nofun
      (fun _ => h.framer.body hb)

theorem opWpbi_sound (h : Sound s) (hst : s.tx.fstate = .waitingForPartialBurstIngestion) : (opWpbi s).All Sound := by
  obtain ⟨-, hu⟩ | ⟨-, hu⟩ := opWpbi_cases s <;> rw [hu]
  · exact h
  · exact h.leaveFrame (u := s) (by simp [hst]) rfl rfl rfl rfl h.txPrio rfl rfl (by simp [Framer.sending])

/-- Every operation of a tick keeps a sound state sound. -/
theorem opOf_sound (h : Sound s) : (opOf s).All Sound := by
  unfold opOf
  split
  · next hst => exact opGnp_sound h hst
  · next hst => exact opShb_sound h hst
  · next hst => exact opWhbi_sound h hst
  · next hst => exact opSb_sound h hst
  · next hst => exact opWbi_sound h hst
  · next hst => exact opWpbi_sound h hst
  · exact h
  · trivial

/-- So does the tick (R200). -/
theorem finishTick_sound (h : Sound s) {k : Nat} (ht : finishTick k (opOf s) = .next t) : Sound t :=
  finishTick_all (fun _ _ hu => hu.withEnv _ rfl) (fun _ hu => opOf_sound hu) k _ (opOf_sound h) ht

end Tick

/-! ### The host's writes (spec/42_host_interface.md) -/

section HostWrites
variable {s : State}

theorem Sound.readDone (h : Sound s) (v : W64) : Sound (s.readDone v) := h.withEnv _ rfl

theorem Sound.writeDone (h : Sound s) : Sound s.writeDone := h.readDone 0

theorem Sound.latch (h : Sound s) (rest : List Event) (now : W64) (ws : List Nat) : Sound (s.latch rest now ws) :=
  h.withEnv _ rfl

theorem Sound.setTaken (h : Sound s) (b : Bool) : Sound (s.setTaken b) := h.withEnv _ rfl

theorem Sound.setSelTx (h : Sound s) {sl : TxSlot} (hs : sl.content.Sound s.params.capacity) : Sound (s.setSelTx sl) :=
  h.setTxp ((h.txPrio _).setSlot hs) rfl rfl fun _ => rfl

theorem Sound.hostError (h : Sound s) {c : BitVec 2} (hc : c ≠ 0 ∧ c.toNat ≤ 2) : Sound (s.raise (.hostError c)) :=
  h.withControl _ rfl { h.control with hostErr := iff_of_true rfl hc.1, cause := hc.2 }

theorem Sound.busError (h : Sound s) : Sound (s.raise .busError) :=
  h.withControl { s.ctl with busErr := true } rfl { h.control with }

/-- TX_COMMIT (R278): an entry is pushed only where it fits, behind the head that may be under way. -/
theorem Sound.commitTx (h : Sound s) : Sound s.commitTx := by
  unfold State.commitTx
  split
  · exact h.hostError (by decide)
  · next hlen =>
    split
    · exact h.hostError (by decide)
    · next hroom =>
      have hx := h.txPrio s.ctl.txSel
      exact h.setTxp (hx.push hroom (Nat.le_of_not_lt hlen) hx.content) rfl rfl fun hne => List.head?_append_of_ne_nil _ hne

theorem Sound.popRx (h : Sound s) (p : Prio) : Sound (s.popRx p) :=
  h.setRxp ((h.rxPrio p).subqueue (List.tail_sublist _)) rfl rfl

theorem warlNonzero_ne_zero (v : W64) : warlNonzero v ≠ 0 := by
  unfold warlNonzero
  split
  · decide
  · assumption

theorem warlPrio_lt {P : Params} {old : Prio} (h : old.toNat < P.nPrio) (v : W64) : (warlPrio P old v).toNat < P.nPrio := by
  unfold warlPrio
  split
  · next hv => exact hv.2
  · exact h

theorem Sound.writeStatus (h : Sound s) (v : W64) : Sound (s.writeStatus v) := by
  unfold State.writeStatus
  refine h.withControl _ rfl { h.control with hostErr := ?hostErr, cause := ?cause } <;> dsimp only
  case hostErr =>
    cases v.getLsbD 10 with
    | false => simpa using h.control.hostErr
    | true => simp
  case cause =>
    cases v.getLsbD 10 with
    | false => exact h.control.cause
    | true => simp

theorem Sound.statsClear (h : Sound s) : Sound s.statsClear := by
  have hd := h.withDeframer _ (h.deframer.withRecord 0 0 (by decide))
  refine hd.of_transmitOnly (t := s.statsClear) ⟨rfl, rfl, rfl, rfl⟩
    (hd.framer.congr rfl rfl rfl rfl fun _ => ?_) fun q => ?_
  · simp only [State.headTx?, State.statsClear_txp]
    exact ⟨rfl, rfl, rfl⟩
  · rw [State.statsClear_txp]
    exact (h.txPrio q).congr rfl rfl rfl rfl

theorem Sound.rxFlush (h : Sound s) : Sound s.rxFlush := by
  have hst : ReceiveOnly s s.rxFlush :=
    ⟨s.rxFlush_params, s.rxFlush_tx, s.rxFlush_txPrio, s.rxFlush_ctl, congrArg Env.epoch s.rxFlush_env⟩
  refine h.of_receiveOnly hst (h.deframer.congr s.rxFlush_params s.rxFlush_rx ?_ ?_) fun q => ?_ <;>
    rw [State.rxFlush_rxp]
  exact (h.rxPrio q).subqueue (List.nil_sublist _)

theorem Sound.rxSoftReset (h : Sound s) : Sound s.rxSoftReset := by
  have hrange : DeframerInRange s.rxSoftReset :=
    { hdrCnt := by simp, rxCur := h.params.1.1, ftrPos := by simp, cause := h.deframer.cause }
  refine h.of_receiveOnly ⟨rfl, rfl, rfl, rfl, rfl⟩ (DeframerSound.of_waiting hrange rfl) fun q => ?_
  rw [State.rxSoftReset_rxp]
  exact { h.rxPrio q with brk := nofun, written := nofun }

theorem FramerSound.of_txSoftReset (hn : 1 ≤ s.params.nPrio) : FramerSound s.txSoftReset :=
  FramerSound.of_not_sending (by simp) hn (by simp) (by simp) (by simp [Framer.sending])

theorem Sound.txSoftReset (h : Sound s) : Sound s.txSoftReset :=
  h.of_transmitOnly ⟨rfl, rfl, rfl, rfl⟩ (FramerSound.of_txSoftReset h.params.1.1) h.txPrio

theorem Sound.txFlush (h : Sound s) : Sound s.txFlush := by
  refine h.of_transmitOnly ⟨rfl, rfl, rfl, rfl⟩ (FramerSound.of_txSoftReset h.params.1.1) fun q => ?_
  rw [State.txFlush_txp]
  exact (h.txPrio q).subqueue (List.nil_sublist _)

theorem Sound.actIf (h : Sound s) (b : Bool) {act : State → State} (hact : ∀ {u}, Sound u → Sound (act u)) :
    Sound (s.actIf b act) := by
  cases b with
  | false => exact h
  | true => exact hact h

/-- HW_CTRL (R264): the stored fields bear on nothing, and each action keeps the invariant. -/
theorem Sound.writeCtrl (h : Sound s) (v : W64) : Sound (s.writeCtrl v) :=
  have hfields : Sound { s with ctl := { s.ctl with
      rxEn := v.getLsbD 0, txEn := v.getLsbD 1, lastStartResync := v.getLsbD 2 } } :=
    h.withControl _ rfl { h.control with }
  ((((hfields.actIf _ Sound.statsClear).actIf _ Sound.rxFlush).actIf _
    Sound.rxSoftReset).actIf _ Sound.txFlush).actIf _ Sound.txSoftReset

end HostWrites

/-! ### What the decoder ensures of the operation it selects (spec/30_encoding.md R114 to R116) -/

/-- The operation can be selected in `s`: the engine state of a deframer or framer operation, the range of a content write. -/
def SelectableIn (s : State) : Instr → Prop
  | .dfWfpStart | .dfWfpOther _ => s.rx.dstate = .waitingForPacket
  | .dfRhStart | .dfRhEsc | .dfRhByte _ => s.rx.dstate = .readingHeader
  | .dfRcStartLast | .dfRcStart | .dfRcByte _ => s.rx.dstate = .readingContent
  | .dfDstcEsc | .dfDstcStart | .dfDstcOther _ => s.rx.dstate = .disambiguateContent
  | .dfRfStartLast | .dfRfStart | .dfRfByte _ => s.rx.dstate = .readingFooter
  | .dfDstfEsc | .dfDstfStart | .dfDstfOther _ => s.rx.dstate = .disambiguateFooter
  | .frGnp => s.tx.fstate = .gettingNextPacket
  | .frShb => s.tx.fstate = .sendingHeaderBurst
  | .frWhbi => s.tx.fstate = .waitingForHeaderBurstIngestion
  | .frSb => s.tx.fstate = .sendingBurst
  | .frWbi => s.tx.fstate = .waitingForBurstIngestion
  | .frWpbi => s.tx.fstate = .waitingForPartialBurstIngestion
  | .frHalt => s.tx.fstate = .halted
  | .hwTxContent i _ => i.toNat < s.params.capacity
  | _ => True

section Decode
variable (s : State)

theorem selectableIn_decode_dfb (c : DecodeCtx) (b : Byte) :
    SelectableIn s (decode s.params c (.dfb (dfbWord s.rx.dstate.code b))) := by
  simp only [decode, dfbState_dfbWord, dfbByte_dfbWord]
  cases h : s.rx.dstate with
  | reserved6 => trivial
  | reserved7 => trivial
  | _ =>
    simp only [DState.code, decodeDfb]
    split_ifs <;> exact h

theorem selectableIn_decode_frt (c : DecodeCtx) : SelectableIn s (decode s.params c (.frt s.tx.fstate.code)) := by
  simp only [decode, decodeFrt]
  split
  · cases h : s.tx.fstate with
    | reserved7 => trivial
    | _ => exact h
  · trivial

variable {s} {i : Instr}

theorem selectableIn_of_decodeGlobalRead {a : Addr} (h : decodeGlobalRead a = some i) : SelectableIn s i := by
  unfold decodeGlobalRead at h
  split at h <;> cases h <;> trivial

theorem selectableIn_of_decodeGlobalWrite {a : Addr} {v : W64} (h : decodeGlobalWrite a v = some i) : SelectableIn s i := by
  unfold decodeGlobalWrite at h
  split at h <;> cases h <;> trivial

theorem selectableIn_of_decodeBlockRead {p : Prio} {k : BitVec 4} (h : decodeBlockRead p k = some i) : SelectableIn s i := by
  unfold decodeBlockRead at h
  split at h <;> cases h <;> trivial

theorem selectableIn_of_decodeMapped {we : Bool} {a : Addr} {v : W64} (h : decodeMapped s.params we a v = some i) :
    SelectableIn s i := by
  unfold decodeMapped at h
  dsimp only at h
  split_ifs at h
  · cases h; trivial
  · exact selectableIn_of_decodeBlockRead h
  · cases h; exact Nat.lt_of_not_le ‹_›
  · cases h; trivial
  · cases h; trivial
  · cases h; trivial
  · exact selectableIn_of_decodeGlobalWrite h
  · exact selectableIn_of_decodeGlobalRead h

theorem selectableIn_decode_hbus (c : DecodeCtx) (w : BitVec 83) : SelectableIn s (decode s.params c (.hbus w)) := by
  simp only [decode, decodeHbus]
  cases h : decodeMapped s.params (hbusWe w) (hbusAddr w) (hbusData w) with
  | none => trivial
  | some i => exact selectableIn_of_decodeMapped h

end Decode

/-! ### Every operation -/

section Exec
variable {s t : State}

theorem exec_sound (h : Sound s) {i : Instr} (hi : SelectableIn s i) (hst : exec i s = .next t) : Sound t := by
  cases i with
  | dfWfpStart => cases hst; exact h.startHeader (xs := []) (by simp)
  | dfWfpOther b => cases hst; exact h
  | dfRhStart => cases hst; exact (h.discard (by decide)).startHeader (xs := []) (by simp)
  | dfRhEsc =>
    cases hst
    have hdrop := h.dropFrame (c := causeEscInHeader) (by decide)
    exact hdrop.withDeframer _ (DeframerSound.of_waiting { hdrop.deframer.inRange with hdrCnt := by simp } rfl)
  | dfRhByte b => exact h.execDfRhByte hi hst
  | dfRcStartLast => cases hst; exact h.interrupt (.inl hi) (xs := []) (by simp)
  | dfRcStart => cases hst; exact h.toDisambiguate (.inl ⟨hi, rfl⟩)
  | dfRcByte b => exact h.storeContent (.inl hi) hst
  | dfDstcEsc => exact h.storeContent (.inr hi) hst
  | dfDstcStart => cases hst; exact h.interrupt (.inr (.inl hi)) (xs := []) (by simp)
  | dfDstcOther b => cases hst; exact h.interrupt (.inr (.inl hi)) (xs := [b]) (by simp)
  | dfRfStartLast => cases hst; exact h.interrupt (.inr (.inr (.inl hi))) (xs := []) (by simp)
  | dfRfStart => cases hst; exact h.toDisambiguate (.inr ⟨hi, rfl⟩)
  | dfRfByte b => exact h.storeFooter (.inl hi) hst
  | dfDstfEsc => exact h.storeFooter (.inr hi) hst
  | dfDstfStart => cases hst; exact h.interrupt (.inr (.inr (.inr hi))) (xs := []) (by simp)
  | dfDstfOther b => cases hst; exact h.interrupt (.inr (.inr (.inr hi))) (xs := [b]) (by simp)
  | dfReserved low b => cases hst
  | frGnp => exact finishTick_sound h ((execFrGnp_eq s hi).symm.trans hst)
  | frShb => exact finishTick_sound h ((execFrShb_eq s hi).symm.trans hst)
  | frWhbi => exact finishTick_sound h ((execFrWhbi_eq s hi).symm.trans hst)
  | frSb => exact finishTick_sound h ((execFrSb_eq s hi).symm.trans hst)
  | frWbi => exact finishTick_sound h ((execFrWbi_eq s hi).symm.trans hst)
  | frWpbi => exact finishTick_sound h ((execFrWpbi_eq s hi).symm.trans hst)
  | frHalt => exact finishTick_sound h ((execFrHalt_eq s hi).symm.trans hst)
  | frReserved => cases hst
  | frOff f => cases hst; exact h.withEnv _ rfl
  | hwCtrl v => cases hst; exact (h.writeCtrl v).writeDone
  | hwStatus v => cases hst; exact (h.writeStatus v).writeDone
  | hwCfgMaxBurst v =>
    cases hst
    exact Sound.writeDone (h.withControl _ rfl { h.control with maxBurst := warlNonzero_ne_zero v })
  | hwCfgMaxAtomic v =>
    cases hst
    exact Sound.writeDone (h.withControl _ rfl { h.control with maxAtomic := warlNonzero_ne_zero v })
  | hwCfgNsPerByte v =>
    cases hst
    exact Sound.writeDone (h.withControl _ rfl { h.control with })
  | hwTxSel v =>
    cases hst
    exact Sound.writeDone (h.withControl _ rfl { h.control with txSel := warlPrio_lt h.control.txSel v })
  | hwRxSel v =>
    cases hst
    exact Sound.writeDone (h.withControl _ rfl { h.control with rxSel := warlPrio_lt h.control.rxSel v })
  | hwTxSeq v => cases hst; exact Sound.writeDone (h.setSelTx (h.txPrio s.ctl.txSel).content)
  | hwTxLen v => cases hst; exact Sound.writeDone (h.setSelTx (h.txPrio s.ctl.txSel).content)
  | hwTxFlags v => cases hst; exact Sound.writeDone (h.setSelTx (h.txPrio s.ctl.txSel).content)
  | hwTxContent n v => cases hst; exact Sound.writeDone (h.setSelTx ((h.txPrio s.ctl.txSel).content.write hi _))
  | hwTxCommit v => cases hst; exact h.commitTx.writeDone
  | hwRxConsume v => cases hst; exact (h.popRx _).writeDone
  | hbErr we a v => cases hst; exact h.busError.readDone 0
  | _ => cases hst; exact h.readDone _

end Exec

/-! ### After a hard reset (spec/70_reset_and_hazards.md R360) -/

@[simp] theorem State.reset_rxp (p : Prio) : State.reset.rxp p = RxPrio.reset := bankGet_replicate _ p

@[simp] theorem State.reset_txp (p : Prio) : State.reset.txp p = TxPrio.reset := bankGet_replicate _ p

/-- Every item at its reset value is a sound state, for every legal build and every interface. -/
theorem sound_of_reset {P : Params} (hP : P.Legal) (v : Env) : Sound { State.reset with params := P, env := v } where
  params := hP
  deframer := DeframerSound.of_waiting
    { hdrCnt := (by decide : Deframer.reset.hdrCnt.toNat < 13)
      rxCur  := hP.1.1
      ftrPos := (by decide : Deframer.reset.ftrPos.toNat < 4)
      cause  := (by decide : Deframer.reset.lastCause.toNat ≤ 8) } rfl
  rxPrio := fun p => by
    rw [State.mk_rxp, bankGet_rxPrio, State.reset_rxp]
    exact { len := Nat.zero_le _, brk := nofun, written := nofun, content := Memory.Sound_nil _, depth := Nat.zero_le _,
            entries := nofun }
  framer := FramerSound.of_txSoftReset (s := { State.reset with params := P, env := v }) hP.1.1
  txPrio := fun p => by
    rw [State.mk_txp, bankGet_txPrio, State.reset_txp]
    exact { total := .inl rfl, brk := Nat.zero_le _, content := Memory.Sound_nil _, depth := Nat.zero_le _, entries := nofun }
  control :=
    { maxBurst  := (by decide : Control.reset.maxBurst ≠ 0)
      maxAtomic := (by decide : Control.reset.maxAtomic ≠ 0)
      txSel     := hP.1.1
      rxSel     := hP.1.1
      hostErr   := (by decide : Control.reset.hostErr = true ↔ Control.reset.hostErrCause ≠ 0)
      cause     := (by decide : Control.reset.hostErrCause.toNat ≤ 2) }

end Sys2Proof.Machine

namespace Sys2Proof.Proofs

open Sys2Proof Sys2Proof.Machine Sys2Proof.Claims

/-- Settles O9: the records by evaluation, the items of each priority from the copy that every priority has. -/
theorem resetValues : Obligations.ResetValues := by
  refine ⟨rfl, rfl, fun p => ?rxPrio, fun p => ?txPrio, rfl, by decide, by decide⟩
  case rxPrio =>
    rw [State.reset_rxp]
    exact ⟨rfl, rfl, rfl, rfl, rfl, rfl, rfl, Memory.read?_nil⟩
  case txPrio =>
    rw [State.reset_txp]
    exact ⟨rfl, rfl, rfl, rfl, rfl, rfl, rfl, rfl, rfl, rfl, rfl, rfl, rfl, rfl, Memory.read?_nil⟩

/-- Settles O56: the default build is legal, and a legal build is sound after reset. -/
theorem soundAtReset : Obligations.SoundAtReset := sound_of_reset (by decide) State.reset.env

/-- Settles O57: by the next input event. Taking it changes the interfaces only; the operation it selects is one that the engine's
state allows (`SelectableIn`), and each of those keeps every part of the invariant (`exec_sound`). -/
theorem everyStepKeepsSound : Obligations.EveryStepKeepsSound := by
  intro s t h hst
  match hp : s.env.pending with
  | [] => cases (step_idle hp).symm.trans hst; exact h
  | .hardReset :: rest => cases (step_hardReset hp).symm.trans hst; exact sound_of_reset h.params _
  | .tick now ws :: rest =>
    have hi := selectableIn_decode_frt (s.latch rest now ws) s.decodeCtx
    exact exec_sound (h.latch ..) hi ((step_tick hp).symm.trans hst)
  | .host we a v now :: rest =>
    have hi := selectableIn_decode_hbus (s := s.latch rest now []) s.decodeCtx (hbusWord we a v)
    exact exec_sound (h.latch ..) hi ((step_host hp).symm.trans hst)
  | .link b now :: rest =>
    have ht := (h.latch rest now []).setTaken
    cases hen : s.ctl.rxEn with
    | false => cases (step_link_disabled hp hen).symm.trans hst; exact ht false
    | true =>
      have hi := selectableIn_decode_dfb ((s.latch rest now []).setTaken true) s.decodeCtx b
      exact exec_sound (ht true) hi ((step_link_enabled hp hen).symm.trans hst)

end Sys2Proof.Proofs

/-! PROOFS. Statements of spec/20_memory.md: which offsets of the host space hold no register (R81, R260). -/

namespace Sys2Proof

open Sys2Proof.Claims

/-! ### The register map (spec/10_state.md R40, R51, R52, spec/20_memory.md R81) -/

/-- The three runs of offsets that the list of global, TX and RX registers spells out (R40). -/
theorem mem_globalOffsets_iff {a : Addr} : a ∈ globalOffsets ↔
    a.toNat % 8 = 0 ∧ (a.toNat ≤ 0x048 ∨ (0x080 ≤ a.toNat ∧ a.toNat ≤ 0x0A8) ∨ (0x0C0 ≤ a.toNat ∧ a.toNat ≤ 0x0F8)) := by
  simp only [globalOffsets, List.cons_append, List.nil_append, List.mem_cons, List.not_mem_nil, or_false,
    ← BitVec.toNat_inj, BitVec.ofNat_eq_ofNat, BitVec.toNat_ofNat]
  omega

section Map
variable {P : Params} {a : Addr}

theorem Params.mapped_iff : P.mapped a = true ↔ a.toNat % 8 = 0 ∧
    (a ∈ globalOffsets ∨
     (0x800 ≤ a.toNat ∧ (a.toNat - 0x800) / 0x80 < P.nPrio ∧ (a.toNat - 0x800) % 0x80 ≤ 0x58) ∨
     (0x10000 ≤ a.toNat ∧ (a.toNat - 0x10000) / 8 < P.capacity) ∨
     (0x20000 ≤ a.toNat ∧ (a.toNat - 0x20000) / 8 < P.capacity)) := by
  simp [Params.mapped, and_assoc, or_assoc]

/-- The model's test of an offset takes quotient and remainder; the map names a priority and register or a content index. -/
theorem Params.mapped_iff_isRegister : P.mapped a = true ↔ IsRegister P a.toNat := by
  rw [Params.mapped_iff, mem_globalOffsets_iff, IsRegister, and_congr_right_iff]
  intro halign
  simp only [halign, true_and, or_assoc]
  refine or_congr_right (or_congr_right (or_congr_right (or_congr ?block (or_congr ?txContent ?rxContent))))
  case block => exact ⟨fun ⟨_, hp, hk⟩ => ⟨_, _, hp, hk, by omega⟩, fun ⟨p, k, hp, hk, h⟩ => by omega⟩
  case txContent => exact ⟨fun ⟨_, hi⟩ => ⟨_, hi, by omega⟩, fun ⟨i, hi, h⟩ => by omega⟩
  case rxContent => exact ⟨fun ⟨_, hi⟩ => ⟨_, hi, by omega⟩, fun ⟨i, hi, h⟩ => by omega⟩

theorem Params.mapped_blockAddr_iff (hP : P.Legal) (p : Prio) (k : BitVec 4) :
    P.mapped (blockAddr p k) = true ↔ p.toNat < P.nPrio ∧ k.toNat ≤ 11 := by
  have := k.isLt; have := p.isLt
  rw [Params.mapped_iff, mem_globalOffsets_iff, blockAddr_toNat]
  omega

theorem Params.mapped_contentAddr_iff (hP : P.Legal) {w : BitVec 2} (hw : w = 1#2 ∨ w = 2#2) (i : BitVec 13) :
    P.mapped (contentAddr w i) = true ↔ i.toNat < P.capacity := by
  have := i.isLt
  have hw : w.toNat = 1 ∨ w.toNat = 2 := hw.imp (congrArg BitVec.toNat) (congrArg BitVec.toNat)
  rw [Params.mapped_iff, mem_globalOffsets_iff, contentAddr_toNat]
  omega

end Map

/-! ### The regions that the decoder tests (spec/30_encoding.md R116) -/

section Regions
variable {a : Addr}

theorem extractLsb'_eq_iff {start len : Nat} {x : BitVec len} :
    a.extractLsb' start len = x ↔ a.toNat / 2 ^ start % 2 ^ len = x.toNat := by
  rw [← BitVec.toNat_inj, BitVec.extractLsb'_toNat, Nat.shiftRight_eq_div_pow]

theorem exists_eq_blockAddr (halign : a.extractLsb' 0 3 = 0#3) (hblock : a.extractLsb' 11 7 = 1#7) :
    ∃ p k, a = blockAddr p k := by
  refine ⟨a.extractLsb' 7 4, a.extractLsb' 3 4, BitVec.eq_of_toNat_eq ?_⟩
  rw [extractLsb'_eq_iff, BitVec.toNat_ofNat] at halign hblock
  simp only [blockAddr_toNat, BitVec.extractLsb'_toNat, Nat.shiftRight_eq_div_pow]
  omega

theorem exists_eq_contentAddr (halign : a.extractLsb' 0 3 = 0#3) : ∃ i, a = contentAddr (a.extractLsb' 16 2) i := by
  refine ⟨a.extractLsb' 3 13, BitVec.eq_of_toNat_eq ?_⟩
  have := a.isLt
  rw [extractLsb'_eq_iff, BitVec.toNat_ofNat] at halign
  simp only [contentAddr_toNat, BitVec.extractLsb'_toNat, Nat.shiftRight_eq_div_pow]
  omega

theorem Params.mapped_iff_mem_globalOffsets {P : Params} (hP : P.Legal) (hblock : a.extractLsb' 11 7 ≠ 1#7)
    (htx : a.extractLsb' 16 2 ≠ 1#2) (hrx : a.extractLsb' 16 2 ≠ 2#2) : P.mapped a = true ↔ a ∈ globalOffsets := by
  have := a.isLt
  rw [ne_eq, extractLsb'_eq_iff, BitVec.toNat_ofNat] at hblock htx hrx
  rw [Params.mapped_iff, mem_globalOffsets_iff]
  omega

end Regions

/-! ### Where the decoder finds a register (spec/42_host_interface.md R260) -/

theorem decodeGlobalRead_isSome_iff {a : Addr} : (decodeGlobalRead a).isSome ↔ a ∈ globalOffsets := by
  unfold decodeGlobalRead
  split
  case h_25 => simp_all [globalOffsets]
  all_goals decide

theorem decodeGlobalWrite_isSome_iff {a : Addr} {v : W64} : (decodeGlobalWrite a v).isSome ↔ a ∈ globalOffsets := by
  unfold decodeGlobalWrite
  split
  case h_25 => simp_all [globalOffsets]
  all_goals exact iff_of_true rfl (by decide)

theorem decodeBlockRead_isSome_iff {p : Prio} {k : BitVec 4} : (decodeBlockRead p k).isSome ↔ k.toNat ≤ 11 := by
  revert p k; decide

section Decode
variable {P : Params} {we we' : Bool} {a a' : Addr} {v v' : W64}

theorem decodeMapped_misaligned (halign : a.extractLsb' 0 3 ≠ 0#3) : decodeMapped P we a v = none := if_pos halign

theorem decodeMapped_blockAddr_isSome_iff {p : Prio} {k : BitVec 4} :
    (decodeMapped P we (blockAddr p k) v).isSome ↔ p.toNat < P.nPrio ∧ k.toNat ≤ 11 := by
  simp only [decodeMapped, blockAddr_align, blockAddr_base, blockAddr_prio, blockAddr_reg, ne_eq, not_true, if_false, if_true,
    ← not_lt]
  split_ifs <;> simp [*, decodeBlockRead_isSome_iff]

theorem decodeMapped_contentAddr_isSome_iff {w : BitVec 2} (hw : w = 1#2 ∨ w = 2#2) {i : BitVec 13} :
    (decodeMapped P we (contentAddr w i) v).isSome ↔ i.toNat < P.capacity := by
  have hblock : (contentAddr w i).extractLsb' 11 7 ≠ 1#7 := contentAddr_not_block w i (by rintro rfl; simp at hw)
  simp only [decodeMapped, contentAddr_align, contentAddr_window, contentAddr_index, hblock, ne_eq, not_true, if_false,
    ← not_lt]
  rcases hw with rfl | rfl <;> split_ifs <;> simp_all

theorem decodeMapped_isSome_iff_mem_globalOffsets (halign : a.extractLsb' 0 3 = 0#3) (hblock : a.extractLsb' 11 7 ≠ 1#7)
    (htx : a.extractLsb' 16 2 ≠ 1#2) (hrx : a.extractLsb' 16 2 ≠ 2#2) :
    (decodeMapped P we a v).isSome ↔ a ∈ globalOffsets := by
  simp only [decodeMapped, halign, hblock, htx, hrx, ne_eq, not_true, if_false]
  cases we
  · exact decodeGlobalRead_isSome_iff
  · exact decodeGlobalWrite_isSome_iff

/-- The decoder tests the region first and then the index in it; region by region, what it finds is what the map holds. -/
theorem decodeMapped_isSome_iff (hP : P.Legal) : (decodeMapped P we a v).isSome ↔ P.mapped a = true := by
  by_cases halign : a.extractLsb' 0 3 = 0#3
  case neg =>
    rw [decodeMapped_misaligned halign, Params.mapped_iff]
    rw [extractLsb'_eq_iff, BitVec.toNat_ofNat] at halign
    exact iff_of_false nofun fun h => halign (by omega)
  by_cases hblock : a.extractLsb' 11 7 = 1#7
  case pos =>
    obtain ⟨p, k, rfl⟩ := exists_eq_blockAddr halign hblock
    rw [decodeMapped_blockAddr_isSome_iff, Params.mapped_blockAddr_iff hP]
  by_cases hwin : a.extractLsb' 16 2 = 1#2 ∨ a.extractLsb' 16 2 = 2#2
  case pos =>
    obtain ⟨i, hi⟩ := exists_eq_contentAddr halign
    rw [hi, decodeMapped_contentAddr_isSome_iff hwin, Params.mapped_contentAddr_iff hP hwin]
  case neg =>
    obtain ⟨htx, hrx⟩ := not_or.mp hwin
    rw [decodeMapped_isSome_iff_mem_globalOffsets halign hblock htx hrx,
      Params.mapped_iff_mem_globalOffsets hP hblock htx hrx]

theorem decodeGlobalRead_ne_hbErr : decodeGlobalRead a ≠ some (.hbErr we' a' v') := by
  unfold decodeGlobalRead
  split <;> nofun

theorem decodeGlobalWrite_ne_hbErr : decodeGlobalWrite a v ≠ some (.hbErr we' a' v') := by
  unfold decodeGlobalWrite
  split <;> nofun

theorem decodeBlockRead_ne_hbErr {p : Prio} {k : BitVec 4} : decodeBlockRead p k ≠ some (.hbErr we' a' v') := by
  unfold decodeBlockRead
  split <;> nofun

/-- HB_ERR is selected only for want of a register. -/
theorem decodeMapped_ne_hbErr : decodeMapped P we a v ≠ some (.hbErr we' a' v') := by
  intro h
  unfold decodeMapped at h
  dsimp only at h
  split_ifs at h
  · cases h
  · exact decodeBlockRead_ne_hbErr h
  · cases h
  · cases h
  · cases h
  · cases h
  · exact decodeGlobalWrite_ne_hbErr h
  · exact decodeGlobalRead_ne_hbErr h

theorem decodeHbus_eq_hbErr_iff (hP : P.Legal) :
    decodeHbus P we a v = .hbErr we a (if we then v else 0) ↔ ¬ P.mapped a = true := by
  rw [← decodeMapped_isSome_iff (we := we) (v := v) hP, decodeHbus]
  cases h : decodeMapped P we a v with
  | none => simp
  | some i =>
    have hi : i ≠ .hbErr we a (if we then v else 0) := by rintro rfl; exact decodeMapped_ne_hbErr h
    simpa using hi

end Decode

end Sys2Proof

namespace Sys2Proof.Proofs

open Sys2Proof Sys2Proof.Claims

/-- Settles O5: the fields of the word are the access, the decoder finds a register exactly where `Params.mapped` holds
(`decodeHbus_eq_hbErr_iff`), and `Params.mapped` is the map of the spec. -/
theorem unmappedOffsetsSelectError : Obligations.UnmappedOffsetsSelectError := by
  intro P c we a v hP
  rw [decode, hbusWe_hbusWord, hbusAddr_hbusWord, hbusData_hbusWord, ← Params.mapped_iff_isRegister]
  exact decodeHbus_eq_hbErr_iff hP

end Sys2Proof.Proofs

/-! PROOFS. Statements of spec/30_encoding.md: the operation words (R111 to R116), how they decode and encode. -/

namespace Sys2Proof

open Sys2Proof.Claims

/-! ### The fields of a word (R111, R112) -/

section Words
variable (P : Params) (c : DecodeCtx) (d : BitVec 3) (b : Byte) (we : Bool) (a : Addr) (v : W64)

@[simp] theorem decode_dfbWord : decode P c (.dfb (dfbWord d b)) = decodeDfb P c d b := by
  rw [decode, dfbState_dfbWord, dfbByte_dfbWord]

@[simp] theorem decode_hbusWord : decode P c (.hbus (hbusWord we a v)) = decodeHbus P we a v := by
  rw [decode, hbusWe_hbusWord, hbusAddr_hbusWord, hbusData_hbusWord]

@[simp] theorem decode_readWord : decode P c (readWord a) = decodeHbus P false a 0 := decode_hbusWord ..

@[simp] theorem decode_writeWord : decode P c (writeWord a v) = decodeHbus P true a v := decode_hbusWord ..

@[simp] theorem readDataCleared_hbusWord :
    readDataCleared (.hbus (hbusWord we a v)) = .hbus (hbusWord we a (if we then v else 0)) := by
  simp only [readDataCleared, hbusWe_hbusWord, hbusAddr_hbusWord, hbusData_hbusWord]

end Words

/-! ### The registers that an offset names (R116) -/

section Registers
variable {P : Params} {we : Bool} {a : Addr} {v : W64} {i : Instr}

theorem decodeHbus_of_decodeMapped (h : decodeMapped P we a v = some i) : decodeHbus P we a v = i := by
  rw [decodeHbus, h, Option.getD_some]

theorem decodeMapped_blockAddr {p : Prio} (k : BitVec 4) (hp : p.toNat < P.nPrio) :
    decodeMapped P we (blockAddr p k) v =
      if we then (if k.toNat ≤ 11 then some (.hwPrioBlock p k v) else none) else decodeBlockRead p k := by
  simp only [decodeMapped, blockAddr_align, blockAddr_base, blockAddr_prio, blockAddr_reg, ne_eq, not_true, if_false, if_true,
    Nat.not_le_of_lt hp]

theorem decodeMapped_txContent {n : BitVec 13} (hn : n.toNat < P.capacity) :
    decodeMapped P we (contentAddr 1 n) v = some (if we then .hwTxContent n v else .hrTxContent n) := by
  have hblock := contentAddr_not_block 1 n (by decide)
  simp only [decodeMapped, contentAddr_align, contentAddr_window, contentAddr_index, hblock, ne_eq, not_true, if_false,
    Nat.not_le_of_lt hn]
  rfl

theorem decodeMapped_rxContent {n : BitVec 13} (hn : n.toNat < P.capacity) :
    decodeMapped P we (contentAddr 2 n) v = some (if we then .hwRxContent n v else .hrRxContent n) := by
  have hblock := contentAddr_not_block 2 n (by decide)
  simp only [decodeMapped, contentAddr_align, contentAddr_window, contentAddr_index, hblock, ne_eq, not_true, if_false,
    Nat.not_le_of_lt hn]
  rfl

theorem decodeMapped_eq_none_iff (hP : P.Legal) : decodeMapped P we a v = none ↔ P.mapped a = false := by
  rw [← Option.not_isSome_iff_eq_none, decodeMapped_isSome_iff hP, Bool.not_eq_true]

/-- A read of one of the first twelve registers of a block. -/
theorem decodeHbus_blockRead {p : Prio} (k : BitVec 4) (hp : p.toNat < P.nPrio) (hk : decodeBlockRead p k = some i) :
    decodeHbus P false (blockAddr p k) 0 = i :=
  decodeHbus_of_decodeMapped ((decodeMapped_blockAddr k hp).trans hk)

end Registers

/-! ### Decode of encode -/

section DecodeOfEncode
variable {P : Params} {c : DecodeCtx} {i : Instr}

theorem decodeDfb_reserved (low : BitVec 1) (b : Byte) : decodeDfb P c (3#2 ++ low) b = .dfReserved low b := by
  obtain rfl | rfl : low = 0 ∨ low = 1 := by revert low; decide
  all_goals rfl

/-- By the row of the operation: a deframer row tests the byte class and the context, a framer row the enable, and a host
row is the register at its offset, or none. -/
theorem decode_encode (hP : P.Legal) (hwf : wellFormed P i = true) (hsel : selectedIn c i = true) :
    decode P c (encode P i) = i := by
  have htok : P.startTok ≠ P.escTok := hP.2.2.2.1
  cases i with
  | dfWfpStart | dfRhStart | dfRhEsc | dfDstcEsc | dfDstcStart | dfDstfEsc | dfDstfStart =>
    simp [encode, decodeDfb, htok, htok.symm]
  | dfRcStartLast | dfRcStart | dfRfStartLast | dfRfStart => simpa [encode, decodeDfb, selectedIn] using hsel
  | dfWfpOther b | dfRcByte b | dfRfByte b =>
    have hb : b ≠ P.startTok := by simpa [wellFormed] using hwf
    simp [encode, decodeDfb, hb]
  | dfRhByte b | dfDstcOther b | dfDstfOther b =>
    obtain ⟨hS, hE⟩ : b ≠ P.startTok ∧ b ≠ P.escTok := by simpa [wellFormed, Params.isOther] using hwf
    simp [encode, decodeDfb, hS, hE]
  | dfReserved low b => exact (decode_dfbWord ..).trans (decodeDfb_reserved low b)
  | frGnp | frShb | frWhbi | frSb | frWbi | frWpbi | frHalt | frReserved => exact if_pos hsel
  | frOff f => exact if_neg (by simpa [selectedIn] using hsel)
  | hrStatSent | hrStatRetx | hrStatReliable | hrStatLatency | hrStatLatPerByte | hrLastSeq | hrTxTotal | hrTxBreak | hrRxActive
  | hrRxBreak | hrRxSlotSeq | hrRxSlotLen =>
    exact (decode_readWord ..).trans (decodeHbus_blockRead _ (of_decide_eq_true hwf) rfl)
  | hwPrioBlock p k v =>
    obtain ⟨hp, hk⟩ : p.toNat < P.nPrio ∧ k.toNat ≤ 11 := by simpa [wellFormed] using hwf
    rw [encode, decode_writeWord, decodeHbus, decodeMapped_blockAddr k hp, if_pos rfl, if_pos hk, Option.getD_some]
  | hrTxContent n =>
    exact (decode_readWord ..).trans (decodeHbus_of_decodeMapped (decodeMapped_txContent (of_decide_eq_true hwf)))
  | hwTxContent n v =>
    exact (decode_writeWord ..).trans (decodeHbus_of_decodeMapped (decodeMapped_txContent (of_decide_eq_true hwf)))
  | hrRxContent n =>
    exact (decode_readWord ..).trans (decodeHbus_of_decodeMapped (decodeMapped_rxContent (of_decide_eq_true hwf)))
  | hwRxContent n v =>
    exact (decode_writeWord ..).trans (decodeHbus_of_decodeMapped (decodeMapped_rxContent (of_decide_eq_true hwf)))
  | hbErr we a v =>
    obtain ⟨hmap, hv⟩ : P.mapped a = false ∧ (we = true ∨ v = 0) := by simpa [wellFormed] using hwf
    rw [encode, decode_hbusWord, decodeHbus, (decodeMapped_eq_none_iff hP).2 hmap, Option.getD_none]
    rcases hv with rfl | rfl <;> simp
  | _ =>
    simp only [encode, decode_readWord, decode_writeWord]
    rfl

end DecodeOfEncode

/-! ### Encode of decode -/

/-- `i` is the operation that the word `w` stands for in the context `c`. -/
structure StandsFor (P : Params) (c : DecodeCtx) (w : OpWord) (i : Instr) : Prop where
  legal    : wellFormed P i = true
  selected : selectedIn c i = true
  word     : encode P i = readDataCleared w

section EncodeOfDecode
variable {P : Params} {c : DecodeCtx} {d : BitVec 3} {b : Byte} {f : BitVec 3} {we : Bool} {a : Addr} {v : W64} {i : Instr}

theorem standsFor_decodeDfb : StandsFor P c (.dfb (dfbWord d b)) (decodeDfb P c d b) := by
  unfold decodeDfb
  split
  case h_7 h0 h1 h2 h3 h4 h5 =>
    have hd : 3#2 ++ d.extractLsb' 0 1 = d := by revert d; decide
    exact ⟨rfl, rfl, by rw [encode, hd]; rfl⟩
  all_goals
    split_ifs <;> constructor <;> simp_all [wellFormed, Params.isOther, selectedIn, encode, readDataCleared]

theorem standsFor_decodeFrt : StandsFor P c (.frt f) (decodeFrt c f) := by
  unfold decodeFrt
  split_ifs with hen
  · split
    case h_8 =>
      have hf : f = 7 := by revert f; decide
      exact ⟨rfl, hen, congrArg OpWord.frt hf.symm⟩
    all_goals exact ⟨rfl, hen, rfl⟩
  · exact ⟨rfl, by simpa [selectedIn] using hen, rfl⟩

theorem standsFor_of_decodeGlobalRead (h : decodeGlobalRead a = some i) : StandsFor P c (.hbus (hbusWord false a v)) i := by
  unfold decodeGlobalRead at h
  split at h <;> cases h <;> exact ⟨rfl, rfl, (readDataCleared_hbusWord ..).symm⟩

theorem standsFor_of_decodeGlobalWrite (h : decodeGlobalWrite a v = some i) : StandsFor P c (.hbus (hbusWord true a v)) i := by
  unfold decodeGlobalWrite at h
  split at h <;> cases h <;> exact ⟨rfl, rfl, (readDataCleared_hbusWord ..).symm⟩

theorem standsFor_of_decodeBlockRead {p : Prio} {k : BitVec 4} (hp : p.toNat < P.nPrio) (h : decodeBlockRead p k = some i) :
    StandsFor P c (.hbus (hbusWord false (blockAddr p k) v)) i := by
  unfold decodeBlockRead at h
  split at h <;> cases h <;> exact ⟨decide_eq_true hp, rfl, (readDataCleared_hbusWord ..).symm⟩

theorem standsFor_of_decodeBlock {p : Prio} {k : BitVec 4} (h : decodeMapped P we (blockAddr p k) v = some i) :
    StandsFor P c (.hbus (hbusWord we (blockAddr p k) v)) i := by
  obtain ⟨hp, hk⟩ := decodeMapped_blockAddr_isSome_iff.1 (Option.isSome_of_mem h)
  rw [decodeMapped_blockAddr k hp] at h
  cases we with
  | false => exact standsFor_of_decodeBlockRead hp h
  | true =>
    cases (if_pos hk).symm.trans h
    exact ⟨by simp [wellFormed, hp, hk], rfl, (readDataCleared_hbusWord ..).symm⟩

theorem standsFor_of_decodeTxContent {n : BitVec 13} (h : decodeMapped P we (contentAddr 1 n) v = some i) :
    StandsFor P c (.hbus (hbusWord we (contentAddr 1 n) v)) i := by
  have hn := (decodeMapped_contentAddr_isSome_iff (.inl rfl)).1 (Option.isSome_of_mem h)
  cases (decodeMapped_txContent hn).symm.trans h
  cases we <;> exact ⟨decide_eq_true hn, rfl, (readDataCleared_hbusWord ..).symm⟩

theorem standsFor_of_decodeRxContent {n : BitVec 13} (h : decodeMapped P we (contentAddr 2 n) v = some i) :
    StandsFor P c (.hbus (hbusWord we (contentAddr 2 n) v)) i := by
  have hn := (decodeMapped_contentAddr_isSome_iff (.inr rfl)).1 (Option.isSome_of_mem h)
  cases (decodeMapped_rxContent hn).symm.trans h
  cases we <;> exact ⟨decide_eq_true hn, rfl, (readDataCleared_hbusWord ..).symm⟩

/-- By the region of the offset, which the decoder tests first. -/
theorem standsFor_of_decodeMapped (h : decodeMapped P we a v = some i) : StandsFor P c (.hbus (hbusWord we a v)) i := by
  by_cases halign : a.extractLsb' 0 3 = 0#3
  case neg => cases (decodeMapped_misaligned halign).symm.trans h
  by_cases hblock : a.extractLsb' 11 7 = 1#7
  case pos =>
    obtain ⟨p, k, rfl⟩ := exists_eq_blockAddr halign hblock
    exact standsFor_of_decodeBlock h
  obtain ⟨n, hn⟩ := exists_eq_contentAddr halign
  by_cases htx : a.extractLsb' 16 2 = 1#2
  case pos => rw [htx] at hn; subst hn; exact standsFor_of_decodeTxContent h
  by_cases hrx : a.extractLsb' 16 2 = 2#2
  case pos => rw [hrx] at hn; subst hn; exact standsFor_of_decodeRxContent h
  simp only [decodeMapped, halign, hblock, htx, hrx, ne_eq, not_true, if_false] at h
  cases we with
  | false => exact standsFor_of_decodeGlobalRead h
  | true => exact standsFor_of_decodeGlobalWrite h

theorem standsFor_decodeHbus (hP : P.Legal) : StandsFor P c (.hbus (hbusWord we a v)) (decodeHbus P we a v) := by
  rw [decodeHbus]
  cases h : decodeMapped P we a v with
  | some i => exact standsFor_of_decodeMapped h
  | none =>
    have hmap := (decodeMapped_eq_none_iff hP).1 h
    refine ⟨?legal, rfl, (readDataCleared_hbusWord ..).symm⟩
    cases we <;> simpa [wellFormed] using hmap

/-- What the decoder selects is what the word stands for. -/
theorem standsFor_decode (hP : P.Legal) (w : OpWord) : StandsFor P c w (decode P c w) := by
  cases w with
  | dfb w =>
    rw [← dfbWord_fields w, decode_dfbWord]
    exact standsFor_decodeDfb
  | frt w => exact standsFor_decodeFrt
  | hbus w =>
    rw [← hbusWord_fields w, decode_hbusWord]
    exact standsFor_decodeHbus hP

end EncodeOfDecode

/-! ### Table words (log 7) -/

theorem decodeTableWord_eq_some {nbits w : Nat} {i : Instr} (h : decodeTableWord nbits w = some i) :
    ∃ x, OpWord.ofBits nbits w = .ok x ∧ decode .default tableCtx x = i := by
  unfold decodeTableWord decodeBits at h
  split at h
  · next hx =>
    split at hx
    · next x hbits => cases hx; cases h; exact ⟨x, hbits, rfl⟩
    · cases hx
  · cases h

/-- The enable bears on ticks only. -/
theorem decode_dfb_congr (P : Params) {c c' : DecodeCtx} (hd : c.lastOfData = c'.lastOfData) (hf : c.lastOfFtr = c'.lastOfFtr)
    (w : BitVec 11) : decode P c (.dfb w) = decode P c' (.dfb w) := by
  simp only [decode, decodeDfb, hd, hf]

end Sys2Proof

namespace Sys2Proof.Proofs

open Sys2Proof Sys2Proof.Machine Sys2Proof.Claims

/-- Settles O2: each row's word selects the row again (`decode_encode`). -/
theorem decodeOfEncode : Obligations.DecodeOfEncode := fun _ _ _ => decode_encode

/-- Settles O3: the operation that a word stands for is well formed and selected (`standsFor_decode`). -/
theorem everyWordSelectsOneOperation : Obligations.EveryWordSelectsOneOperation := fun _ _ w hP =>
  ⟨(standsFor_decode hP w).legal, (standsFor_decode hP w).selected⟩

/-- Settles O4: its word is the word decoded, but for the data of a read (`standsFor_decode`). -/
theorem encodeOfDecode : Obligations.EncodeOfDecode := fun _ _ w hP => (standsFor_decode hP w).word

/-- Settles O1: by evaluation, word by word. -/
theorem sampleWordsDecode : Obligations.SampleWordsDecode := by
  unfold Obligations.SampleWordsDecode
  decide

end Sys2Proof.Proofs

/-! PROOFS. Statements about the wire format: the fields of a header (R100 to R102) and stuffing (R108, R119). -/

namespace Sys2Proof.Machine

open Sys2Proof Sys2Proof.Proofs

/-! ### Stuffing (R108) -/

section Stuffing
variable (S E : Byte)

theorem stuff_cons (b : Byte) (bs : List Byte) :
    stuff S E (b :: bs) = b :: ((if b = S then [E] else []) ++ stuff S E bs) := by
  by_cases h : b = S
  · subst h; rw [stuff_cons_start, if_pos rfl]; rfl
  · rw [stuff_cons_other _ _ _ _ h, if_neg h]; rfl

theorem stuff_append (xs ys : List Byte) : stuff S E (xs ++ ys) = stuff S E xs ++ stuff S E ys := by
  induction xs with
  | nil => rfl
  | cons x xs ih => simp only [List.cons_append, stuff_cons, ih, List.append_assoc]

theorem stuff_length (xs : List Byte) : (stuff S E xs).length = xs.length + xs.count S := by
  induction xs with
  | nil => rfl
  | cons x xs ih =>
    simp only [stuff_cons, List.length_cons, List.length_append, ih, List.count_cons, beq_iff_eq]
    split <;> simp <;> omega

/-- The first byte on the wire is the first byte stuffed, and tells whether an escape follows it. -/
theorem stuff_injective : Function.Injective (stuff S E) := by
  intro xs
  induction xs with
  | nil =>
    intro ys h
    cases ys with
    | nil => rfl
    | cons y ys => rw [stuff_cons] at h; cases h
  | cons x xs ih =>
    intro ys h
    cases ys with
    | nil => rw [stuff_cons] at h; cases h
    | cons y ys =>
      rw [stuff_cons, stuff_cons, List.cons.injEq] at h
      obtain ⟨rfl, htail⟩ := h
      rw [ih (List.append_cancel_left htail)]

end Stuffing

/-! ### The fields of a header (R100 to R102) -/

section Header
variable {S : Byte} {p : Prio} {seq : W64} {len : W16} {cont init ack : Bool} {h : Vector Byte 13}

theorem flagCont_flagsByte : flagCont (flagsByte cont init ack) = cont := by
  revert cont init ack; decide

theorem flagInit_flagsByte : flagInit (flagsByte cont init ack) = init := by
  revert cont init ack; decide

theorem flagAck_flagsByte : flagAck (flagsByte cont init ack) = ack := by
  revert cont init ack; decide

theorem flagsByte_lt : (flagsByte cont init ack).toNat < 8 := by
  revert cont init ack; decide

theorem prioByte_toNat (p : Prio) : (prioByte p).toNat = p.toNat := by
  have := p.isLt
  rw [prioByte, BitVec.toNat_setWidth]; omega

/-- `BE_k` of a value that has `k` bytes reads back as the value (R13). -/
theorem ofNat_beVal_beBytes {n : Nat} (k : Nat) (hk : 2 ^ n = 256 ^ k) (v : BitVec n) :
    BitVec.ofNat n (beVal (beBytes k v.toNat)) = v := by
  rw [beVal_beBytes k _ (hk ▸ v.isLt), BitVec.ofNat_toNat, BitVec.setWidth_eq]

theorem exists_header (S : Byte) (p : Prio) (seq : W64) (len : W16) (cont init ack : Bool) :
    ∃ h : Vector Byte 13, h.toList = headerBytes S p seq len cont init ack :=
  ⟨⟨(headerBytes S p seq len cont init ack).toArray, headerBytes_length ..⟩, rfl⟩

theorem header_getElem (hh : h.toList = headerBytes S p seq len cont init ack) (i : Nat) (hi : i < 13) :
    h[i] = (headerBytes S p seq len cont init ack)[i]'(by simpa using hi) := by
  simp only [← hh, Vector.getElem_toList]

theorem hdrPrioByte_of_header (hh : h.toList = headerBytes S p seq len cont init ack) : hdrPrioByte h = prioByte p :=
  header_getElem hh 1 (by omega)

theorem hdrFlags_of_header (hh : h.toList = headerBytes S p seq len cont init ack) :
    hdrFlags h = flagsByte cont init ack := by
  rw [hdrFlags, header_getElem hh 12 (by omega)]
  simp [headerBytes]

theorem hdrSeq_of_header (hh : h.toList = headerBytes S p seq len cont init ack) : hdrSeq h = seq := by
  have hbytes : (h.toList.drop 2).take 8 = beBytes 8 seq.toNat := by
    simp [hh, headerBytes]
  rw [hdrSeq, hbytes, ofNat_beVal_beBytes 8 (by decide)]

theorem hdrLength_of_header (hh : h.toList = headerBytes S p seq len cont init ack) : hdrLength h = len := by
  have hbytes : (h.toList.drop 10).take 2 = beBytes 2 len.toNat := by
    simp [hh, headerBytes]
  rw [hdrLength, hbytes, ofNat_beVal_beBytes 2 (by decide)]

end Header

end Sys2Proof.Machine

namespace Sys2Proof.Proofs

open Sys2Proof Sys2Proof.Machine Sys2Proof.Claims

/-- Settles O12: the 13 bytes are a header, and each field is read from where R100 puts it. -/
theorem headerFieldsReadBack : Obligations.HeaderFieldsReadBack := by
  intro S p seq len cont init ack
  obtain ⟨h, hh⟩ := exists_header S p seq len cont init ack
  refine ⟨h, hh, ?_, hdrSeq_of_header hh, hdrLength_of_header hh, ?_⟩
  · rw [hdrPrioByte_of_header hh, prioByte_toNat]
  · rw [hdrFlags_of_header hh]
    exact ⟨flagCont_flagsByte, flagInit_flagsByte, flagAck_flagsByte, flagsByte_lt⟩

/-- Settles O13: the header is not stuffed, and stuffing adds one byte for each start token (`stuff_length`). -/
theorem frameLength : Obligations.FrameLength := by
  intro S E p seq init ack content csum
  rw [List.length_append, canonHdr, headerBytes_length, stuff_length, List.length_append, footerBytes_length]
  omega

/-- Settles O14: each byte stuffs by itself, and the stuffed bytes tell it (`stuff_injective`). -/
theorem stuffingIsInjective : Obligations.StuffingIsInjective := fun S E xs ys =>
  ⟨stuff_append S E xs ys, fun h => stuff_injective S E h⟩

end Sys2Proof.Proofs

/-! PROOFS. Statements about a step: a placed word is what it runs (log 7), and it never stops a sound block. -/

namespace Sys2Proof.Machine

open Sys2Proof Sys2Proof.Claims Sys2Proof.Proofs

/-! ### The word placed for the next step (log 7) -/

/-- A step from `u` runs `i` on a state that has the interfaces and the packet stores of `s`, but that a framer with nothing
to send may have been given a packet. -/
def StepRuns (s u : State) (i : Instr) : Prop :=
  ∃ t : State, step u = exec i t ∧ t.env.pending = s.env.pending ∧ t.env.now = s.env.now ∧
    t.env.linkOut = s.env.linkOut ∧ t.rxPrio = s.rxPrio ∧ (t.txPrio = s.txPrio ∨ s.countTx s.tx.txCur = 0)

section Placed
variable (s : State)

/-- A placed byte is read with LAST_START_RESYNC = 0, so the word alone selects. -/
theorem stepRuns_placeWord_dfb (w : BitVec 11) : StepRuns s (s.placeWord (.dfb w)) (decode s.params tableCtx (.dfb w)) := by
  have hctx : decode s.params (s.placeWord (.dfb w)).decodeCtx (.dfb w) = decode s.params tableCtx (.dfb w) :=
    decode_dfb_congr _ rfl rfl w
  have hcode : dfbWord (s.placeWord (.dfb w)).rx.dstate.code (dfbByte w) = w := by
    rw [State.placeWord, code_dstateOfCode, dfbWord_fields]
  have hstep := step_link_enabled (s := s.placeWord (.dfb w)) rfl rfl
  rw [hcode] at hstep
  exact ⟨_, hstep.trans (congrArg (exec · _) hctx), rfl, rfl, rfl, rfl, .inl rfl⟩

theorem placeWord_frt_txPrio (w : BitVec 3) :
    (s.placeWord (.frt w)).txPrio = s.txPrio ∨ s.countTx s.tx.txCur = 0 := by
  unfold State.placeWord
  dsimp only
  split
  · next h => exact .inr h.2
  · exact .inl rfl

theorem placeWord_frt_frame (w : BitVec 3) :
    (s.placeWord (.frt w)).params = s.params ∧ (s.placeWord (.frt w)).tx = { s.tx with fstate := fstateOfCode w } ∧
      (s.placeWord (.frt w)).rxPrio = s.rxPrio ∧ (s.placeWord (.frt w)).ctl = { s.ctl with txEn := true } ∧
      (s.placeWord (.frt w)).env = { s.env with pending := .tick s.env.now [] :: s.env.pending } := by
  unfold State.placeWord
  dsimp only
  split <;> exact ⟨rfl, rfl, rfl, rfl, rfl⟩

theorem stepRuns_placeWord_frt (w : BitVec 3) : StepRuns s (s.placeWord (.frt w)) (decode s.params tableCtx (.frt w)) := by
  obtain ⟨hparams, htx, hrx, hctl, henv⟩ := placeWord_frt_frame s w
  have hstep := step_tick (congrArg Env.pending henv)
  have hsel : decode s.params (s.placeWord (.frt w)).decodeCtx (.frt w) = decode s.params tableCtx (.frt w) := by
    simp only [decode, decodeFrt, State.decodeCtx, hctl, tableCtx]
  rw [hparams, htx, code_fstateOfCode, hsel] at hstep
  have hout : (s.placeWord (.frt w)).env.linkOut = s.env.linkOut := by rw [henv]
  exact ⟨_, hstep, rfl, rfl, hout, hrx, placeWord_frt_txPrio s w⟩

theorem stepRuns_placeWord_hbus (w : BitVec 83) :
    StepRuns s (s.placeWord (.hbus w)) (decode s.params tableCtx (.hbus w)) := by
  have hstep := step_host (s := s.placeWord (.hbus w)) rfl
  rw [hbusWord_fields] at hstep
  exact ⟨_, hstep, rfl, rfl, rfl, rfl, .inl rfl⟩

theorem stepRuns_placeWord (x : OpWord) : StepRuns s (s.placeWord x) (decode s.params tableCtx x) := by
  cases x with
  | dfb w => exact stepRuns_placeWord_dfb s w
  | frt w => exact stepRuns_placeWord_frt s w
  | hbus w => exact stepRuns_placeWord_hbus s w

end Placed

/-! ### A tick of a sound block ends (spec/41_framer.md R200, R225) -/

/-- How many operations without a write can come before the next write. -/
def FState.writeDistance : FState → Nat
  | .waitingForBurstIngestion | .waitingForPartialBurstIngestion => 2
  | .gettingNextPacket | .waitingForHeaderBurstIngestion => 1
  | _ => 0

/-- Falls with every operation after which a tick goes on: a write uses up an answer, and every other operation comes
nearer to a write. -/
def State.tickMeasure (s : State) : Nat := s.env.answers.length + s.tx.fstate.writeDistance

/-- The answer is no fault, and where the tick goes on it does so below `n`. -/
def TickRes.EndsWithin (n : Nat) : TickRes → Prop
  | .cont s => s.tickMeasure < n
  | .ret _ _ => True
  | .fault _ => False

section Tick
variable {s : State} {n : Nat}

theorem State.tickMeasure_le_tickBound (s : State) : s.tickMeasure ≤ s.tickBound := by
  have h : s.tx.fstate.writeDistance ≤ 4 := by cases s.tx.fstate <;> decide
  exact Nat.add_le_add_left h _

/-- A write that goes on was of some bytes and was answered in full, so it used up an answer. -/
theorem answers_tail_length_lt {c : Nat} (hc : 0 < c) (hw : s.answer c = c) :
    s.env.answers.tail.length < s.env.answers.length := by
  unfold State.answer at hw
  split at hw
  · omega
  · next heq => rw [heq]; simp

theorem burstLeft_pos (h : ¬ s.ctl.maxBurst ≤ s.tx.burst) : 0 < s.ctl.maxBurst.toNat - s.tx.burst.toNat :=
  Nat.sub_pos_of_lt (BitVec.not_le.1 h)

theorem Sound.maxAtomic_pos (h : Sound s) : 0 < s.ctl.maxAtomic.toNat :=
  Nat.pos_of_ne_zero fun hz => h.control.maxAtomic (BitVec.eq_of_toNat_eq hz)

theorem opGnp_endsWithin (hst : s.tx.fstate = .gettingNextPacket) (hn : s.tickMeasure ≤ n) :
    (opGnp s).EndsWithin n := by
  have hlt : s.env.answers.length < n := by simpa [State.tickMeasure, hst, FState.writeDistance] using hn
  obtain ⟨-, hu⟩ | ⟨p, e, -, -, ⟨-, hu⟩ | ⟨-, -, hu⟩ | ⟨-, -, -, hu⟩⟩ := opGnp_cases s <;> rw [hu]
  · trivial
  · exact hlt
  · trivial
  · exact hlt

theorem opShb_endsWithin (h : Sound s) (hst : s.tx.fstate = .sendingHeaderBurst) (hn : s.tickMeasure ≤ n) :
    (opShb s).EndsWithin n := by
  have hle : s.env.answers.length ≤ n := by simpa [State.tickMeasure, hst, FState.writeDistance] using hn
  obtain ⟨-, hu⟩ | ⟨-, hnone, hu⟩ | ⟨e, hburst, -, ⟨-, hu⟩ | ⟨-, ⟨-, hu⟩ | ⟨hw, hu⟩⟩⟩ :=
    opShb_cases s <;> rw [hu]
  · trivial
  · obtain ⟨e, he, -⟩ := h.framer.head (.inl hst)
    cases he.symm.trans hnone
  · trivial
  · trivial
  · have hpos : 0 < s.headerChunk := by
      simp only [State.headerChunk, lt_min_iff]
      exact ⟨⟨burstLeft_pos hburst, h.maxAtomic_pos⟩, Nat.sub_pos_of_lt (h.framer.header hst)⟩
    have := answers_tail_length_lt hpos hw
    simp only [TickRes.EndsWithin, State.tickMeasure, State.headerWritten, State.offer, hst, FState.writeDistance]
    omega

theorem opWhbi_endsWithin (hst : s.tx.fstate = .waitingForHeaderBurstIngestion) (hn : s.tickMeasure ≤ n) :
    (opWhbi s).EndsWithin n := by
  have hlt : s.env.answers.length < n := by simpa [State.tickMeasure, hst, FState.writeDistance] using hn
  obtain ⟨-, hu⟩ | ⟨-, -, hu⟩ | ⟨-, -, hu⟩ := opWhbi_cases s <;> rw [hu]
  · trivial
  · exact hlt
  · exact hlt

theorem wire_length_pos {P : Params} {body : List Byte} {b : W16} {esc : Bool} (hlt : b.toNat < body.length) :
    0 < (wire P body b esc).length := by
  have hdrop := stuff_length_le P.startTok P.escTok (body.drop b.toNat)
  unfold wire
  split
  · exact Nat.succ_pos _
  · rw [List.length_drop] at hdrop; omega

theorem opSb_endsWithin (h : Sound s) (hst : s.tx.fstate = .sendingBurst) (hn : s.tickMeasure ≤ n) :
    (opSb s).EndsWithin n := by
  have hle : s.env.answers.length ≤ n := by simpa [State.tickMeasure, hst, FState.writeDistance] using hn
  have hbody : s.tx.sendingBody := .inl hst
  obtain ⟨-, hu⟩ | ⟨-, hnone, hu⟩ |
      ⟨e, hburst, he, ⟨-, hu⟩ | ⟨-, ⟨-, hu⟩ | ⟨-, ⟨-, hu⟩ | ⟨-, ⟨-, hu⟩ | ⟨hw, hu⟩⟩⟩⟩⟩ :=
    opSb_cases s <;> rw [hu]
  case inr.inl =>
    obtain ⟨e, he, -⟩ := h.framer.head (Framer.sending_of_sendingBody hbody)
    cases he.symm.trans hnone
  case inr.inr.inr.inr.inr.inr =>
    have hpos : 0 < s.bodySize e := by
      simp only [State.bodySize, State.bodyChunk, lt_min_iff]
      exact ⟨⟨burstLeft_pos hburst, h.maxAtomic_pos⟩, wire_length_pos (h.framer.body hbody e he).1⟩
    have := answers_tail_length_lt hpos hw
    simp only [TickRes.EndsWithin, State.tickMeasure, State.bodySent, State.offer, hst, FState.writeDistance]
    omega
  all_goals trivial

theorem opWbi_endsWithin (hst : s.tx.fstate = .waitingForBurstIngestion) (hn : s.tickMeasure ≤ n) :
    (opWbi s).EndsWithin n := by
  have hle : s.env.answers.length + 2 ≤ n := by simpa [State.tickMeasure, hst, FState.writeDistance] using hn
  obtain ⟨-, hu⟩ | ⟨-, -, hu⟩ | ⟨-, -, hu⟩ := opWbi_cases s <;> rw [hu]
  · trivial
  · exact hle
  · exact Nat.lt_of_succ_lt hle

theorem opWpbi_endsWithin (hst : s.tx.fstate = .waitingForPartialBurstIngestion) (hn : s.tickMeasure ≤ n) :
    (opWpbi s).EndsWithin n := by
  have hle : s.env.answers.length + 2 ≤ n := by simpa [State.tickMeasure, hst, FState.writeDistance] using hn
  obtain ⟨-, hu⟩ | ⟨-, hu⟩ := opWpbi_cases s <;> rw [hu]
  · trivial
  · exact hle

theorem opOf_endsWithin (h : Sound s) (hn : s.tickMeasure ≤ n) : (opOf s).EndsWithin n := by
  unfold opOf
  split
  · next hst => exact opGnp_endsWithin hst hn
  · next hst => exact opShb_endsWithin h hst hn
  · next hst => exact opWhbi_endsWithin hst hn
  · next hst => exact opSb_endsWithin h hst hn
  · next hst => exact opWbi_endsWithin hst hn
  · next hst => exact opWpbi_endsWithin hst hn
  · trivial
  · next hst => exact absurd hst h.framer.fstate

/-- A tick has the fuel it needs: the measure falls with each repetition, and every state on the way is sound. -/
theorem finishTick_next : ∀ (k : Nat) (r : TickRes), r.All Sound → r.EndsWithin k → ∃ t, finishTick k r = .next t
  | k, .ret s hint, _, _ => ⟨_, finishTick_ret k s hint⟩
  | k + 1, .cont s, hs, hr => finishTick_next k (opOf s) (opOf_sound hs) (opOf_endsWithin hs (Nat.le_of_lt_succ hr))

theorem tick_next (h : Sound s) {o : Host.Outcome State Fault Refusal} (ho : o = finishTick s.tickBound (opOf s)) :
    ∃ t, o = .next t :=
  ho ▸ finishTick_next _ _ (opOf_sound h) (opOf_endsWithin h s.tickMeasure_le_tickBound)

end Tick

/-! ### The operations of a sound block do not fault -/

section Exec
variable {s : State}

/-- `StoreContent` (R144): inside a packet's content the offset is below its length, which is at most `CAPACITY`. -/
theorem storeContent_next (h : Sound s) (hd : s.rx.dstate = .readingContent ∨ s.rx.dstate = .disambiguateContent) (c : Byte) :
    ∃ t, s.storeContent c = .next t := by
  obtain ⟨-, t, ht, -⟩ | ⟨hcap, -⟩ := s.storeContent_cases c
  · exact ⟨t, ht⟩
  · have := h.deframer.content hd
    have := (h.rxPrio s.rx.rxCur).len
    omega

theorem storeFooter_next (h : Sound s) (c : Byte) : ∃ t, s.storeFooter c = .next t := by
  obtain ⟨-, ht⟩ | ⟨-, ht⟩ | ⟨hpos, -⟩ := s.storeFooter_cases c
  · exact ⟨_, ht⟩
  · exact ⟨_, ht⟩
  · exact absurd h.deframer.ftrPos (Nat.not_lt_of_le hpos)

theorem execDfRhByte_next (h : Sound s) (b : Byte) : ∃ t, execDfRhByte b s = .next t := by
  obtain ⟨-, ht⟩ | ⟨-, ht⟩ | ⟨hcnt, -⟩ := execDfRhByte_cases b s
  · exact ⟨_, ht⟩
  · exact ⟨_, ht⟩
  · exact absurd h.deframer.hdrCnt (Nat.not_lt_of_le hcnt)

/-- The operation of an engine in a reserved state (R173, R219), which has no meaning. -/
def IsReserved : Instr → Prop
  | .dfReserved _ _ | .frReserved => True
  | _ => False

/-- The cases named are the operations that test a bound, and the ticks; every other operation names its next state. -/
theorem exec_next (h : Sound s) {i : Instr} (hi : SelectableIn s i) (hr : ¬ IsReserved i) : ∃ t, exec i s = .next t := by
  cases i with
  | dfRhByte b => exact execDfRhByte_next h b
  | dfRcByte b => exact storeContent_next h (.inl hi) b
  | dfDstcEsc => exact storeContent_next h (.inr hi) _
  | dfRfByte b => exact storeFooter_next h b
  | dfDstfEsc => exact storeFooter_next h _
  | dfReserved low b => exact absurd trivial hr
  | frGnp => exact tick_next h (execFrGnp_eq s hi)
  | frShb => exact tick_next h (execFrShb_eq s hi)
  | frWhbi => exact tick_next h (execFrWhbi_eq s hi)
  | frSb => exact tick_next h (execFrSb_eq s hi)
  | frWbi => exact tick_next h (execFrWbi_eq s hi)
  | frWpbi => exact tick_next h (execFrWpbi_eq s hi)
  | frHalt => exact tick_next h (execFrHalt_eq s hi)
  | frReserved => exact absurd trivial hr
  | _ => exact ⟨_, rfl⟩

end Exec

/-! ### No reserved operation is selected (R173, R219) -/

section Reserved
variable {s : State} {c : DecodeCtx}

/-- The word of a reserved operation carries a reserved state code, and decoding drops no bit of it. -/
theorem reserved_of_decode {P : Params} (hP : P.Legal) {w : OpWord} (h : IsReserved (decode P c w)) :
    (∃ (low : BitVec 1) (b : Byte), w = .dfb (dfbWord (3#2 ++ low) b)) ∨ w = .frt 7 := by
  have hw := (standsFor_decode (c := c) hP w).word
  cases hi : decode P c w with
  | dfReserved low b =>
    rw [hi] at hw
    cases w with
    | dfb w => exact .inl ⟨low, b, hw.symm⟩
    | frt w => cases hw
    | hbus w => cases hw
  | frReserved =>
    rw [hi] at hw
    cases w with
    | dfb w => cases hw
    | frt w => exact .inr hw.symm
    | hbus w => cases hw
  | _ => rw [hi] at h; exact h.elim

theorem DState.reserved_of_code (d : DState) : ∀ low : BitVec 1, d.code = 3#2 ++ low → d = .reserved6 ∨ d = .reserved7 := by
  cases d <;> decide

theorem not_isReserved_dfb (h : Sound s) (b : Byte) :
    ¬ IsReserved (decode s.params c (.dfb (dfbWord s.rx.dstate.code b))) := fun hr => by
  obtain ⟨low, b', hw⟩ | hw := reserved_of_decode h.params hr
  · have hcode : s.rx.dstate.code = 3#2 ++ low := by
      have := congrArg dfbState (OpWord.dfb.inj hw)
      rwa [dfbState_dfbWord, dfbState_dfbWord] at this
    exact (DState.reserved_of_code _ low hcode).elim h.deframer.dstate.1 h.deframer.dstate.2
  · cases hw

theorem not_isReserved_frt (h : Sound s) : ¬ IsReserved (decode s.params c (.frt s.tx.fstate.code)) := fun hr => by
  obtain ⟨low, b', hw⟩ | hw := reserved_of_decode h.params hr
  · cases hw
  · have hcode : s.tx.fstate.code = FState.reserved7.code := OpWord.frt.inj hw
    have hst := congrArg fstateOfCode hcode
    rw [fstateOfCode_code, fstateOfCode_code] at hst
    exact h.framer.fstate hst

theorem not_isReserved_hbus (h : Sound s) (w : BitVec 83) : ¬ IsReserved (decode s.params c (.hbus w)) := fun hr => by
  obtain ⟨low, b', hw⟩ | hw := reserved_of_decode h.params hr <;> cases hw

end Reserved

end Sys2Proof.Machine

namespace Sys2Proof.Proofs

open Sys2Proof Sys2Proof.Machine Sys2Proof.Claims

/-- Settles O7: a table word is a word of one of the formats (`decodeTableWord_eq_some`), and placing it makes the step run
what the decoder reads from it (`stepRuns_placeWord`). -/
theorem placedWordRunsNext : Obligations.PlacedWordRunsNext := by
  intro s nbits w i hP hi
  obtain ⟨x, hx, rfl⟩ := decodeTableWord_eq_some hi
  rw [State.withFetchWord, hx, ← hP]
  exact stepRuns_placeWord s x

/-- Settles O58: by the next input event. Taking it keeps the state sound; the operation it selects is no reserved one, and
no other stops in a sound state that allows it (`exec_next`). -/
theorem soundStatesNeverStop : Obligations.SoundStatesNeverStop := by
  intro s h
  match hp : s.env.pending with
  | [] => exact ⟨_, step_idle hp⟩
  | .hardReset :: rest => exact ⟨_, step_hardReset hp⟩
  | .tick now ws :: rest =>
    have hl := h.latch rest now ws
    obtain ⟨t, ht⟩ := exec_next hl (selectableIn_decode_frt _ s.decodeCtx) (not_isReserved_frt hl)
    exact ⟨t, (step_tick hp).trans ht⟩
  | .host we a v now :: rest =>
    have hl := h.latch rest now []
    obtain ⟨t, ht⟩ := exec_next hl (selectableIn_decode_hbus s.decodeCtx (hbusWord we a v)) (not_isReserved_hbus hl _)
    exact ⟨t, (step_host hp).trans ht⟩
  | .link b now :: rest =>
    cases hen : s.ctl.rxEn with
    | false => exact ⟨_, step_link_disabled hp hen⟩
    | true =>
      have hl := (h.latch rest now []).setTaken true
      obtain ⟨t, ht⟩ := exec_next hl (selectableIn_decode_dfb _ s.decodeCtx b) (not_isReserved_dfb hl b)
      exact ⟨t, (step_link_enabled hp hen).trans ht⟩

end Sys2Proof.Proofs

/-! PROOFS. Statements of spec/40_deframer.md about one operation: which byte selects it (R114), what it does and what it
leaves. -/

namespace Sys2Proof.Machine

open Sys2Proof Sys2Proof.Claims

/-! ### The rows of R114, one lemma for each engine state -/

section Rows
variable {s : State} {b : Byte} {i : Instr}

theorem selects_iff : Selects s b i ↔ decodeDfb s.params s.decodeCtx s.rx.dstate.code b = i := by
  rw [Selects, decode_dfbWord]

theorem selects_waitingForPacket (hd : s.rx.dstate = .waitingForPacket) :
    Selects s b i ↔ (if b = s.params.startTok then .dfWfpStart else .dfWfpOther b) = i := by
  rw [selects_iff, hd]; rfl

theorem selects_readingHeader (hd : s.rx.dstate = .readingHeader) :
    Selects s b i ↔
      (if b = s.params.startTok then .dfRhStart else if b = s.params.escTok then .dfRhEsc else .dfRhByte b) = i := by
  rw [selects_iff, hd]; rfl

theorem lastOfData_eq : s.decodeCtx.lastOfData =
    decide (s.ctl.lastStartResync = true ∧ s.rx.curOff + 1 = (s.rxp s.rx.rxCur).slot.len) := by
  simp [State.decodeCtx, Bool.decide_and, Bool.beq_eq_decide_eq]

theorem lastOfFtr_eq : s.decodeCtx.lastOfFtr = decide (s.ctl.lastStartResync = true ∧ s.rx.ftrPos + 1 = 4) := by
  simp [State.decodeCtx, Bool.decide_and, Bool.beq_eq_decide_eq]

theorem selects_readingContent (hd : s.rx.dstate = .readingContent) :
    Selects s b i ↔
      (if b = s.params.startTok then
        if s.ctl.lastStartResync = true ∧ s.rx.curOff + 1 = (s.rxp s.rx.rxCur).slot.len then .dfRcStartLast else .dfRcStart
       else .dfRcByte b) = i := by
  have hrow : decodeDfb s.params s.decodeCtx DState.readingContent.code b =
      if b = s.params.startTok then (if s.decodeCtx.lastOfData then .dfRcStartLast else .dfRcStart) else .dfRcByte b := rfl
  simp only [selects_iff, hd, hrow, lastOfData_eq, decide_eq_true_eq]

theorem selects_disambiguateContent (hd : s.rx.dstate = .disambiguateContent) :
    Selects s b i ↔
      (if b = s.params.escTok then .dfDstcEsc else if b = s.params.startTok then .dfDstcStart else .dfDstcOther b) = i := by
  rw [selects_iff, hd]; rfl

theorem selects_readingFooter (hd : s.rx.dstate = .readingFooter) :
    Selects s b i ↔
      (if b = s.params.startTok then
        if s.ctl.lastStartResync = true ∧ s.rx.ftrPos + 1 = 4 then .dfRfStartLast else .dfRfStart
       else .dfRfByte b) = i := by
  have hrow : decodeDfb s.params s.decodeCtx DState.readingFooter.code b =
      if b = s.params.startTok then (if s.decodeCtx.lastOfFtr then .dfRfStartLast else .dfRfStart) else .dfRfByte b := rfl
  simp only [selects_iff, hd, hrow, lastOfFtr_eq, decide_eq_true_eq]

theorem selects_disambiguateFooter (hd : s.rx.dstate = .disambiguateFooter) :
    Selects s b i ↔
      (if b = s.params.escTok then .dfDstfEsc else if b = s.params.startTok then .dfDstfStart else .dfDstfOther b) = i := by
  rw [selects_iff, hd]; rfl

theorem startTok_ne_escTok {P : Params} (h : P.Legal) : P.startTok ≠ P.escTok := h.2.2.2.1

end Rows

/-! ### What the deframer's procedures end in -/

theorem bankSet_bankSet {α : Type} (v : Bank α) (p : Prio) (x y : α) : bankSet (bankSet v p x) p y = bankSet v p y :=
  Vector.set_set ..

/-- A commit and the end of the packet write the same copy (R169, R165). -/
theorem pushRx_endPacket (s : State) (e : RxEntry) :
    (s.pushRx s.rx.rxCur e).endPacket =
      { s.setRxp s.rx.rxCur { s.rxp s.rx.rxCur with active := false, queue := (s.rxp s.rx.rxCur).queue ++ [e] } with
        rx := { s.rx with ftrPos := 0, dstate := .waitingForPacket } } := by
  simp only [State.endPacket, State.pushRx, State.setRxp_rx, State.setRxp_rxp_self]
  simp only [State.setRxp, bankSet_bankSet]

section Procedures
variable {s : State} {c : Byte} {i : Instr}

/-- `StoreContent` in range (R144). -/
theorem storesContent_of_exec (hcap : s.rx.curOff.toNat < s.params.capacity) (hi : exec i s = s.storeContent c) :
    StoresContent s c i := by
  obtain ⟨-, t, ht, rfl⟩ | ⟨hge, -⟩ := s.storeContent_cases c
  · exact ⟨_, Memory.read?_write_self .., fun j hj => Memory.read?_write_ne _ _ _ _ hj, hi.trans ht⟩
  · exact absurd hcap (Nat.not_lt_of_le hge)

/-- `StoreFooter` before the fourth byte (R165). -/
theorem storesFooter_of_exec (hpos : s.rx.ftrPos.toNat < 3) (hi : exec i s = s.storeFooter c) : StoresFooter s c i := by
  obtain ⟨-, ht⟩ | ⟨heq, -⟩ | ⟨hge, -⟩ := s.storeFooter_cases c
  · exact hi.trans ht
  · rw [heq] at hpos; exact absurd hpos (by decide)
  · omega

/-- `StoreFooter` of the fourth byte (R165 to R169): the record of a discard and the end of the packet change different items. -/
theorem completesFooter_of_exec (hpos : s.rx.ftrPos = 3) (hi : exec i s = s.storeFooter c) : CompletesFooter s c i := by
  obtain ⟨hlt, -⟩ | ⟨-, ht⟩ | ⟨hge, -⟩ := s.storeFooter_cases c
  · rw [hpos] at hlt; exact absurd hlt (by decide)
  · obtain ⟨hbad, hu⟩ | ⟨hgood, hrej, hu⟩ | ⟨hgood, hacc, hfull, hu⟩ | ⟨hgood, hacc, hroom, hu⟩ :=
      State.completeFooter_cases { s with rx := { s.rx with ftrBuf := s.rx.ftrBuf.setIfInBounds 3 c, ftrPos := 4 } }
    all_goals rw [hu] at ht
    · exact ⟨fun _ => hi.trans ht, fun h => absurd h hbad, fun h => absurd h hbad, fun h => absurd h hbad⟩
    · exact ⟨fun h => absurd hgood h, fun _ _ => hi.trans ht, fun _ h => absurd h hrej, fun _ h => absurd h hrej⟩
    · exact ⟨fun h => absurd hgood h, fun _ h => absurd hacc h, fun _ _ _ => hi.trans ht, fun _ _ h => absurd hfull h⟩
    · exact ⟨fun h => absurd hgood h, fun _ h => absurd hacc h, fun _ _ h => absurd h hroom,
        fun _ _ _ => hi.trans (ht.trans (congrArg _ (pushRx_endPacket _ _)))⟩
  · rw [hpos] at hge; exact absurd hge (by decide)

end Procedures

end Sys2Proof.Machine

namespace Sys2Proof.Proofs

open Sys2Proof Sys2Proof.Machine Sys2Proof.Claims

/-- Settles O8: the two kinds of step that select no operation. -/
theorem noOperationWithoutInput : Obligations.NoOperationWithoutInput :=
  ⟨fun _ _ _ _ hp hen => step_link_disabled hp hen, fun _ hp => step_idle hp⟩

/-- Settles O15: the row of `WaitingForPacket`, and the two operations by evaluation. -/
theorem waitingForPacketBytes : Obligations.WaitingForPacketBytes := by
  refine ⟨fun s hd => ⟨?start, fun b hb => ?other⟩, fun s => rfl, fun s b => rfl⟩
  case start => exact (selects_waitingForPacket hd).2 (if_pos rfl)
  case other => exact (selects_waitingForPacket hd).2 (if_neg hb)

/-- Settles O16: the token rows of `ReadingHeader`; legal tokens differ, so the escape token is not read as the start token. -/
theorem tokensInHeader : Obligations.TokensInHeader := by
  refine ⟨fun s hP hd => ⟨?start, ?esc⟩, fun s => rfl, fun s => rfl⟩
  case start => exact (selects_readingHeader hd).2 (if_pos rfl)
  case esc => exact (selects_readingHeader hd).2 ((if_neg (startTok_ne_escTok hP).symm).trans (if_pos rfl))

/-- Settles O17: the last row of `ReadingHeader`, and the first case of DF_RH_BYTE. -/
theorem headerByteStored : Obligations.HeaderByteStored := by
  refine ⟨fun s b hd hS hE => (selects_readingHeader hd).2 ((if_neg hS).trans (if_neg hE)), fun s b hcnt => ?_⟩
  obtain ⟨-, hu⟩ | ⟨heq, -⟩ | ⟨hge, -⟩ := execDfRhByte_cases b s
  · exact hu
  · rw [heq] at hcnt; exact absurd hcnt (by decide)
  · omega

/-- Settles O19: the start-token rows of content and footer where the byte is not the last. -/
theorem startTokenHeld : Obligations.StartTokenHeld := by
  refine ⟨fun s hd hl => ?content, fun s hd hl => ?footer, fun s => rfl, fun s => rfl⟩
  case content => exact (selects_readingContent hd).2 ((if_pos rfl).trans (if_neg hl))
  case footer => exact (selects_readingFooter hd).2 ((if_pos rfl).trans (if_neg hl))

/-- Settles O20: the rows that interrupt a content or a footer; all six operations are `Interrupt` with one byte or with two. -/
theorem interruptionKeepsOffset : Obligations.InterruptionKeepsOffset := by
  refine ⟨fun s hP => ⟨fun hd hlsr hlast => ?rcLast, fun hd hlsr hlast => ?rfLast,
    fun hd => ⟨?dstcStart, fun b hS hE => ?dstcOther⟩, fun hd => ⟨?dstfStart, fun b hS hE => ?dstfOther⟩⟩, ?one, ?two⟩
  case rcLast => exact (selects_readingContent hd).2 ((if_pos rfl).trans (if_pos ⟨hlsr, hlast⟩))
  case rfLast => exact (selects_readingFooter hd).2 ((if_pos rfl).trans (if_pos ⟨hlsr, hlast⟩))
  case dstcStart => exact (selects_disambiguateContent hd).2 ((if_neg (startTok_ne_escTok hP)).trans (if_pos rfl))
  case dstcOther => exact (selects_disambiguateContent hd).2 ((if_neg hE).trans (if_neg hS))
  case dstfStart => exact (selects_disambiguateFooter hd).2 ((if_neg (startTok_ne_escTok hP)).trans (if_pos rfl))
  case dstfOther => exact (selects_disambiguateFooter hd).2 ((if_neg hE).trans (if_neg hS))
  case one => rintro s i (rfl | rfl | rfl | rfl) <;> rfl
  case two => rintro s b i (rfl | rfl) <;> rfl

/-- Settles O21: the rows that store a content byte; both operations are `StoreContent`. -/
theorem contentByteStored : Obligations.ContentByteStored :=
  ⟨fun _ _ hd hb => (selects_readingContent hd).2 (if_neg hb), fun _ hd => (selects_disambiguateContent hd).2 (if_pos rfl),
    fun _ _ hcap => ⟨storesContent_of_exec hcap rfl, storesContent_of_exec hcap rfl⟩⟩

/-- Settles O22: the rows that store a footer byte; both operations are `StoreFooter`, here before the fourth byte. -/
theorem footerByteStored : Obligations.FooterByteStored :=
  ⟨fun _ _ hd hb => (selects_readingFooter hd).2 (if_neg hb), fun _ hd => (selects_disambiguateFooter hd).2 (if_pos rfl),
    fun _ _ hpos => ⟨storesFooter_of_exec hpos rfl, storesFooter_of_exec hpos rfl⟩⟩

/-- Settles O23: both operations are `StoreFooter`, here of the fourth byte. -/
theorem completedFooter : Obligations.CompletedFooter := fun _ _ hpos =>
  ⟨completesFooter_of_exec hpos rfl, completesFooter_of_exec hpos rfl⟩

/-- Settles O18: the byte stored at offset 12 completes the header, and `ProcessHeader` takes one outcome; the conditions of the
other four clauses exclude it. -/
theorem completedHeader : Obligations.CompletedHeader := by
  intro s b hcnt h p len x t legal fresh matching
  obtain ⟨hlt, -⟩ | ⟨-, hu⟩ | ⟨hge, -⟩ := execDfRhByte_cases b s
  · rw [hcnt] at hlt; exact absurd hlt (by decide)
  · have hp : p = (hdrPrioByte h).setWidth 4 := BitVec.ofNat_toNat ..
    have hx : x = s.rxp ((hdrPrioByte h).setWidth 4) := congrArg s.rxp hp
    obtain ⟨hprio, ho⟩ | ⟨hlegal, hfresh, hlong, ho⟩ | ⟨hlegal, hfresh, hshort, ho⟩ | ⟨hlegal, hcont, hmatch, ho⟩ |
        ⟨hlegal, hcont, hmis, ho⟩ :=
      State.processHeader_cases { s with rx := { s.rx with hdrBuf := h, hdrCnt := 13 } }
    all_goals rw [ho] at hu
    · have hil : ¬ legal := Nat.not_lt_of_le hprio
      exact ⟨fun _ => hu, fun hl => absurd hl hil, fun hl => absurd hl hil, fun hl => absurd hl hil, fun hl => absurd hl hil⟩
    · have hnshort := Nat.not_le_of_lt hlong
      exact ⟨fun hl => absurd hlegal hl, fun _ _ _ => hu, fun _ _ hs => absurd hs hnshort, fun _ hf => absurd hfresh hf,
        fun _ hf => absurd hfresh hf⟩
    · have hnlong := Nat.not_lt_of_le hshort
      exact ⟨fun hl => absurd hlegal hl, fun _ _ hl => absurd hl hnlong, fun _ _ _ => hu, fun _ hf => absurd hfresh hf,
        fun _ hf => absurd hfresh hf⟩
    · have hif : ¬ fresh := by simp [fresh, hcont]
      exact ⟨fun hl => absurd hlegal hl, fun _ hf => absurd hf hif, fun _ hf => absurd hf hif, fun _ _ _ => hu,
        fun _ _ hm => absurd hmatch hm⟩
    · have hif : ¬ fresh := by simp [fresh, hcont]
      exact ⟨fun hl => absurd hlegal hl, fun _ hf => absurd hf hif, fun _ hf => absurd hf hif, fun _ _ hm => absurd hm hmis,
        fun _ _ _ => hu⟩
  · rw [hcnt] at hge; exact absurd hge (by decide)

end Sys2Proof.Proofs

/-! PROOFS. Statements of spec/40_deframer.md about every step: what becomes of the engine states (R173, R219) and of the RX FIFOs
(R178). -/

namespace Sys2Proof.Machine

open Sys2Proof Sys2Proof.Claims Sys2Proof.Proofs

/-! ### No operation enters a reserved engine state (R173, R219) -/

/-- Between two states no engine came into a reserved state. -/
def EntersNoReserved (s t : State) : Prop :=
  (t.rx.dstate = .reserved6 → s.rx.dstate = .reserved6) ∧ (t.rx.dstate = .reserved7 → s.rx.dstate = .reserved7) ∧
    (t.tx.fstate = .reserved7 → s.tx.fstate = .reserved7)

section Reserved
variable {s t u : State}

theorem EntersNoReserved.refl (s : State) : EntersNoReserved s s := ⟨id, id, id⟩

theorem EntersNoReserved.trans (h : EntersNoReserved s t) (k : EntersNoReserved t u) : EntersNoReserved s u :=
  ⟨h.1 ∘ k.1, h.2.1 ∘ k.2.1, h.2.2 ∘ k.2.2⟩

/-- The deframer is in a state that has a meaning and the framer has not moved. -/
theorem EntersNoReserved.of_dstate {d : DState} (htx : t.tx.fstate = s.tx.fstate) (hd : t.rx.dstate = d)
    (h6 : d ≠ .reserved6) (h7 : d ≠ .reserved7) : EntersNoReserved s t :=
  ⟨fun h => absurd (hd.symm.trans h) h6, fun h => absurd (hd.symm.trans h) h7, fun h => htx ▸ h⟩

/-- The deframer comes into a packet's content or footer. -/
theorem EntersNoReserved.of_body {c : Prop} [Decidable c] (htx : t.tx.fstate = s.tx.fstate)
    (hd : t.rx.dstate = if c then .readingFooter else .readingContent) : EntersNoReserved s t :=
  .of_dstate htx hd (by split <;> simp) (by split <;> simp)

/-- The framer is in a state that has a meaning and the deframer has not moved. -/
theorem EntersNoReserved.of_fstate (hrx : t.rx.dstate = s.rx.dstate) (hf : t.tx.fstate ≠ .reserved7) :
    EntersNoReserved s t :=
  ⟨fun h => hrx ▸ h, fun h => hrx ▸ h, fun h => absurd h hf⟩

theorem storeContent_entersNoReserved {c : Byte} (h : s.storeContent c = .next t) : EntersNoReserved s t := by
  obtain ⟨-, u, hu, rfl⟩ | ⟨-, hu⟩ := s.storeContent_cases c
  · cases hu.symm.trans h
    exact .of_body rfl rfl
  · cases hu.symm.trans h

theorem storeFooter_entersNoReserved {c : Byte} (h : s.storeFooter c = .next t) : EntersNoReserved s t := by
  obtain ⟨-, hu⟩ | ⟨-, hu⟩ | ⟨-, hu⟩ := s.storeFooter_cases c
  · cases hu.symm.trans h; exact .of_dstate rfl rfl (by simp) (by simp)
  · cases hu.symm.trans h
    have htx := (State.completeFooter_frame { s with rx := { s.rx with
      ftrBuf := s.rx.ftrBuf.setIfInBounds 3 c, ftrPos := 4 } }).2.1
    exact .of_dstate (by rw [State.endPacket_tx, htx]) (by rw [State.endPacket_rx]) (by simp) (by simp)
  · cases hu.symm.trans h

theorem processHeader_entersNoReserved (s : State) : EntersNoReserved s s.processHeader := by
  obtain ⟨-, hu⟩ | ⟨-, -, -, hu⟩ | ⟨-, -, -, hu⟩ | ⟨-, -, -, hu⟩ | ⟨-, -, -, hu⟩ := s.processHeader_cases <;> rw [hu]
  · exact .of_dstate rfl rfl (by simp) (by simp)
  · exact .of_dstate rfl rfl (by simp) (by simp)
  · exact .of_body rfl rfl
  · exact .of_body rfl rfl
  · exact .of_dstate rfl rfl (by simp) (by simp)

theorem execDfRhByte_entersNoReserved {b : Byte} (h : execDfRhByte b s = .next t) : EntersNoReserved s t := by
  obtain ⟨-, hu⟩ | ⟨-, hu⟩ | ⟨-, hu⟩ := execDfRhByte_cases b s
  · cases hu.symm.trans h; exact .refl _
  · cases hu.symm.trans h
    exact .trans (.refl _) (processHeader_entersNoReserved _)
  · cases hu.symm.trans h

theorem opGnp_entersNoReserved (s : State) : (opGnp s).All (EntersNoReserved s) := by
  obtain ⟨-, hu⟩ | ⟨p, e, -, -, ⟨-, hu⟩ | ⟨-, -, hu⟩ | ⟨-, -, -, hu⟩⟩ := opGnp_cases s <;> rw [hu]
  · exact .refl _
  · exact .of_fstate (by simp) (by simp)
  · exact .of_fstate rfl (by simp)
  · exact .of_fstate rfl (by simp)

theorem enterWait_entersNoReserved (hrx : t.rx = s.rx) {f : FState} (hf : f ≠ .reserved7) (final : Bool) :
    (t.enterWait f final).All (EntersNoReserved s) :=
  .of_fstate (congrArg Deframer.dstate hrx) hf

theorem opShb_entersNoReserved (s : State) : (opShb s).All (EntersNoReserved s) := by
  obtain ⟨-, hu⟩ | ⟨-, -, hu⟩ | ⟨e, -, -, ⟨-, hu⟩ | ⟨-, ⟨-, hu⟩ | ⟨-, hu⟩⟩⟩ := opShb_cases s <;> rw [hu]
  · exact enterWait_entersNoReserved rfl (by simp) _
  · trivial
  · exact enterWait_entersNoReserved rfl (by simp) _
  · exact .refl _
  · exact .refl _

theorem opWhbi_entersNoReserved (s : State) : (opWhbi s).All (EntersNoReserved s) := by
  obtain ⟨-, hu⟩ | ⟨-, -, hu⟩ | ⟨-, -, hu⟩ := opWhbi_cases s <;> rw [hu]
  · exact .refl _
  · exact .of_fstate rfl (by simp)
  · exact .of_fstate rfl (by simp)

theorem opSb_entersNoReserved (s : State) : (opSb s).All (EntersNoReserved s) := by
  obtain ⟨-, hu⟩ | ⟨-, -, hu⟩ | ⟨e, -, -, ⟨-, hu⟩ | ⟨-, ⟨-, hu⟩ | ⟨-, ⟨-, hu⟩ | ⟨-, ⟨-, hu⟩ | ⟨-, hu⟩⟩⟩⟩⟩ :=
    opSb_cases s <;> rw [hu]
  · exact enterWait_entersNoReserved rfl (by simp) _
  · trivial
  · exact enterWait_entersNoReserved (State.complete_rx (s.bodySent e) e) (by simp) _
  · exact enterWait_entersNoReserved (State.preempt_rx (s.bodySent e) e) (by simp) _
  · exact enterWait_entersNoReserved rfl (by simp) _
  · exact .refl _
  · exact .refl _

theorem opWbi_entersNoReserved (s : State) : (opWbi s).All (EntersNoReserved s) := by
  obtain ⟨-, hu⟩ | ⟨-, -, hu⟩ | ⟨-, -, hu⟩ := opWbi_cases s <;> rw [hu]
  · exact .refl _
  · exact .of_fstate rfl (by simp)
  · exact .of_fstate rfl (by simp)

theorem opWpbi_entersNoReserved (s : State) : (opWpbi s).All (EntersNoReserved s) := by
  obtain ⟨-, hu⟩ | ⟨-, hu⟩ := opWpbi_cases s <;> rw [hu]
  · exact .refl _
  · exact .of_fstate rfl (by simp)

theorem opHalt_entersNoReserved (s : State) : (opHalt s).All (EntersNoReserved s) := .refl s

theorem opOf_entersNoReserved (s : State) : (opOf s).All (EntersNoReserved s) := by
  unfold opOf
  split
  · exact opGnp_entersNoReserved s
  · exact opShb_entersNoReserved s
  · exact opWhbi_entersNoReserved s
  · exact opSb_entersNoReserved s
  · exact opWbi_entersNoReserved s
  · exact opWpbi_entersNoReserved s
  · exact opHalt_entersNoReserved s
  · trivial

theorem TickRes.All.imp {Q R : State → Prop} (hQR : ∀ u, Q u → R u) {r : TickRes} (h : r.All Q) : r.All R := by
  cases r with
  | cont u => exact hQR u h
  | ret u hint => exact hQR u h
  | fault f => trivial

/-- A tick (R200). -/
theorem finishTick_entersNoReserved {k : Nat} {r : TickRes} (hr : r.All (EntersNoReserved s)) (h : finishTick k r = .next t) :
    EntersNoReserved s t :=
  finishTick_all (Q := EntersNoReserved s) (fun _ _ hu => hu) (fun u hu => (opOf_entersNoReserved u).imp fun _ => hu.trans)
    k r hr h

theorem actIf_entersNoReserved {act : State → State} (hact : ∀ u, EntersNoReserved u (act u)) (s : State) (b : Bool) :
    EntersNoReserved s (s.actIf b act) := by
  cases b with
  | false => exact .refl _
  | true => exact hact s

theorem writeCtrl_entersNoReserved (s : State) (v : W64) : EntersNoReserved s (s.writeCtrl v) := by
  have hrxReset (u : State) : EntersNoReserved u u.rxSoftReset := .of_dstate rfl rfl (by simp) (by simp)
  have htxReset (u : State) : EntersNoReserved u u.txSoftReset := .of_fstate rfl (by simp)
  have htxFlush (u : State) : EntersNoReserved u u.txFlush := .of_fstate rfl (by simp)
  have hfields : EntersNoReserved s { s with ctl := { s.ctl with
      rxEn := v.getLsbD 0, txEn := v.getLsbD 1, lastStartResync := v.getLsbD 2 } } := .refl s
  have hstats (u : State) : EntersNoReserved u u.statsClear := ⟨id, id, id⟩
  have hrxFlush (u : State) : EntersNoReserved u u.rxFlush := ⟨id, id, id⟩
  exact ((((hfields.trans (actIf_entersNoReserved hstats _ _)).trans
    (actIf_entersNoReserved hrxFlush _ _)).trans (actIf_entersNoReserved hrxReset _ _)).trans
    (actIf_entersNoReserved htxFlush _ _)).trans (actIf_entersNoReserved htxReset _ _)

theorem commitTx_entersNoReserved (s : State) : EntersNoReserved s s.commitTx := by
  unfold State.commitTx
  split
  · exact .refl _
  · split <;> exact .refl _

/-- The cases named are the operations that move an engine; every other operation leaves both where they are. -/
theorem exec_entersNoReserved {i : Instr} (h : exec i s = .next t) : EntersNoReserved s t := by
  cases i with
  | dfRhByte b => exact execDfRhByte_entersNoReserved h
  | dfRcByte b => exact storeContent_entersNoReserved h
  | dfDstcEsc => exact storeContent_entersNoReserved h
  | dfRfByte b => exact storeFooter_entersNoReserved h
  | dfDstfEsc => exact storeFooter_entersNoReserved h
  | dfReserved low b => cases h
  | dfWfpStart | dfRhStart | dfRhEsc | dfRcStart | dfRcStartLast | dfDstcStart | dfDstcOther b | dfRfStart | dfRfStartLast
  | dfDstfStart | dfDstfOther b => cases h; exact .of_dstate rfl rfl (by simp) (by simp)
  | frGnp => exact finishTick_entersNoReserved (opGnp_entersNoReserved s) h
  | frShb => exact finishTick_entersNoReserved (opShb_entersNoReserved s) h
  | frWhbi => exact finishTick_entersNoReserved (opWhbi_entersNoReserved s) h
  | frSb => exact finishTick_entersNoReserved (opSb_entersNoReserved s) h
  | frWbi => exact finishTick_entersNoReserved (opWbi_entersNoReserved s) h
  | frWpbi => exact finishTick_entersNoReserved (opWpbi_entersNoReserved s) h
  | frHalt => exact finishTick_entersNoReserved (opHalt_entersNoReserved s) h
  | frReserved => cases h
  | hwCtrl v => cases h; exact writeCtrl_entersNoReserved s v
  | hwTxCommit v => cases h; exact commitTx_entersNoReserved s
  | _ => cases h; exact .refl _

theorem step_entersNoReserved (h : step s = .next t) : EntersNoReserved s t := by
  match hp : s.env.pending with
  | [] => cases (step_idle hp).symm.trans h; exact .refl _
  | .hardReset :: rest =>
    cases (step_hardReset hp).symm.trans h
    exact ⟨nofun, nofun, nofun⟩
  | .tick now ws :: rest => exact exec_entersNoReserved (s := s.latch rest now ws) ((step_tick hp).symm.trans h)
  | .host we a v now :: rest => exact exec_entersNoReserved (s := s.latch rest now []) ((step_host hp).symm.trans h)
  | .link b now :: rest =>
    cases hen : s.ctl.rxEn with
    | false => cases (step_link_disabled hp hen).symm.trans h; exact .refl _
    | true =>
      exact exec_entersNoReserved (s := (s.latch rest now []).setTaken true) ((step_link_enabled hp hen).symm.trans h)

end Reserved

/-! ### What a link byte does to the RX FIFOs (R178) -/

/-- A deframer operation (R114). -/
def IsDeframer : Instr → Prop
  | .dfWfpStart | .dfWfpOther _ | .dfRhStart | .dfRhEsc | .dfRhByte _ | .dfRcStartLast | .dfRcStart | .dfRcByte _
  | .dfDstcEsc | .dfDstcStart | .dfDstcOther _ | .dfRfStartLast | .dfRfStart | .dfRfByte _ | .dfDstfEsc | .dfDstfStart
  | .dfDstfOther _ | .dfReserved _ _ => True
  | _ => False

theorem isDeframer_decodeDfb (P : Params) (c : DecodeCtx) (d : BitVec 3) (b : Byte) : IsDeframer (decodeDfb P c d b) := by
  unfold decodeDfb
  split
  case h_7 => trivial
  all_goals split_ifs <;> trivial

/-- No packet is committed, and at most one discard is counted. -/
def CommitsNone (s t : State) : Prop :=
  (∀ p, (t.rxp p).queue = (s.rxp p).queue) ∧
    (t.rx.discardCount = s.rx.discardCount ∨ t.rx.discardCount = s.rx.discardCount + 1)

/-- One packet is committed, for the priority being received, and no discard is recorded. -/
def CommitsOne (s t : State) : Prop :=
  t.rx.discardCount = s.rx.discardCount ∧ t.rx.lastCause = s.rx.lastCause ∧
    ∃ e, (t.rxp s.rx.rxCur).queue = (s.rxp s.rx.rxCur).queue ++ [e] ∧
      ∀ q, q ≠ s.rx.rxCur → (t.rxp q).queue = (s.rxp q).queue

section Receive
variable {s t : State}

theorem CommitsNone.refl (s : State) : CommitsNone s s := ⟨fun _ => rfl, .inl rfl⟩

theorem setRxp_queue {p : Prio} {x : RxPrio} (hx : x.queue = (s.rxp p).queue) (q : Prio) :
    ((s.setRxp p x).rxp q).queue = (s.rxp q).queue := by
  rw [State.setRxp_rxp]
  split
  · next h => rw [h, hx]
  · rfl

theorem storeContent_commitsNone {c : Byte} (h : s.storeContent c = .next t) : CommitsNone s t := by
  obtain ⟨-, u, hu, rfl⟩ | ⟨-, hu⟩ := s.storeContent_cases c
  · cases hu.symm.trans h
    exact ⟨setRxp_queue rfl, .inl rfl⟩
  · cases hu.symm.trans h

theorem processHeader_commitsNone (s : State) : CommitsNone s s.processHeader := by
  obtain ⟨-, hu⟩ | ⟨-, -, -, hu⟩ | ⟨-, -, -, hu⟩ | ⟨-, -, -, hu⟩ | ⟨-, -, -, hu⟩ := s.processHeader_cases <;> rw [hu]
  · exact ⟨fun _ => rfl, .inr rfl⟩
  · exact ⟨fun _ => rfl, .inr rfl⟩
  · exact ⟨setRxp_queue rfl, .inl rfl⟩
  · exact ⟨fun _ => rfl, .inl rfl⟩
  · exact ⟨fun _ => rfl, .inr rfl⟩

theorem execDfRhByte_commitsNone {b : Byte} (h : execDfRhByte b s = .next t) : CommitsNone s t := by
  obtain ⟨-, hu⟩ | ⟨-, hu⟩ | ⟨-, hu⟩ := execDfRhByte_cases b s
  · cases hu.symm.trans h; exact .refl _
  · cases hu.symm.trans h; exact processHeader_commitsNone _
  · cases hu.symm.trans h

/-- The end of a packet touches no FIFO. -/
theorem endPacket_queue (s : State) (q : Prio) : (s.endPacket.rxp q).queue = (s.rxp q).queue :=
  setRxp_queue (x := { s.rxp s.rx.rxCur with active := false }) rfl q

theorem pushRx_commitsOne (s : State) (e : RxEntry) : CommitsOne s (s.pushRx s.rx.rxCur e).endPacket :=
  ⟨rfl, rfl, e, by rw [endPacket_queue, State.pushRx_rxp, if_pos rfl],
    fun q hq => by rw [endPacket_queue, State.pushRx_rxp, if_neg hq]⟩

theorem completeFooter_commits (s : State) :
    CommitsNone s s.completeFooter.endPacket ∨ CommitsOne s s.completeFooter.endPacket := by
  have hdiscard (c : Byte) : CommitsNone s (s.raise (.discard c)).endPacket := ⟨endPacket_queue _, .inr rfl⟩
  obtain ⟨-, hu⟩ | ⟨-, -, hu⟩ | ⟨-, -, -, hu⟩ | ⟨-, -, -, hu⟩ := s.completeFooter_cases <;> rw [hu]
  · exact .inl (hdiscard _)
  · exact .inl (hdiscard _)
  · exact .inl (hdiscard _)
  · exact .inr (pushRx_commitsOne s _)

theorem storeFooter_commits {c : Byte} (h : s.storeFooter c = .next t) : CommitsNone s t ∨ CommitsOne s t := by
  obtain ⟨-, hu⟩ | ⟨-, hu⟩ | ⟨-, hu⟩ := s.storeFooter_cases c
  · cases hu.symm.trans h; exact .inl (.refl _)
  · cases hu.symm.trans h; exact completeFooter_commits _
  · cases hu.symm.trans h

/-- Only a footer byte can commit. -/
theorem exec_commits {i : Instr} (hi : IsDeframer i) (h : exec i s = .next t) : CommitsNone s t ∨ CommitsOne s t := by
  cases i with
  | dfRhByte b => exact .inl (execDfRhByte_commitsNone h)
  | dfRcByte b => exact .inl (storeContent_commitsNone h)
  | dfDstcEsc => exact .inl (storeContent_commitsNone h)
  | dfRfByte b => exact storeFooter_commits h
  | dfDstfEsc => exact storeFooter_commits h
  | dfReserved low b => cases h
  | dfWfpStart | dfWfpOther b | dfRcStart | dfRfStart => cases h; exact .inl (.refl _)
  | dfRhStart | dfRhEsc => cases h; exact .inl ⟨fun _ => rfl, .inr rfl⟩
  | dfRcStartLast | dfRfStartLast | dfDstcStart | dfDstfStart | dfDstcOther b | dfDstfOther b =>
    cases h; exact .inl ⟨setRxp_queue rfl, .inl rfl⟩
  | _ => exact hi.elim

end Receive

end Sys2Proof.Machine

namespace Sys2Proof.Proofs

open Sys2Proof Sys2Proof.Machine Sys2Proof.Claims

/-- Settles O24: the reserved rows and operations by evaluation, and `step_entersNoReserved`. -/
theorem reservedStatesFault : Obligations.ReservedStatesFault := by
  refine ⟨fun s b => ⟨fun hd => ?six, fun hd => ?seven⟩, fun s hen hf => ?tick, fun _ _ _ => rfl, fun _ => rfl,
    fun s t h => step_entersNoReserved h⟩
  case six => rw [selects_iff, hd]; rfl
  case seven => rw [selects_iff, hd]; rfl
  case tick =>
    have hctx : s.decodeCtx.txEn = true := hen
    simp only [TickSelects, decode, decodeFrt, hctx, hf]; rfl

/-- Settles O55: a byte that is not taken changes no FIFO; one that is taken selects a deframer operation. -/
theorem receiveQueuesOnlyGrow : Obligations.ReceiveQueuesOnlyGrow := by
  intro s t b now rest hp h
  cases hen : s.ctl.rxEn with
  | false => cases (step_link_disabled hp hen).symm.trans h; exact .inl (CommitsNone.refl s)
  | true =>
    have hexec := (step_link_enabled hp hen).symm.trans h
    rw [decode_dfbWord] at hexec
    exact exec_commits (s := (s.latch rest now []).setTaken true) (isDeframer_decodeDfb ..) hexec

end Sys2Proof.Proofs

/-! PROOFS. A complete fresh frame is committed (spec/40_deframer.md R175, R178): the header, the stuffed content and the stuffed
footer are followed byte by byte from any sound state. -/

namespace Sys2Proof.Machine

open Sys2Proof Sys2Proof.Claims Sys2Proof.Proofs

/-! ### Delivering bytes (spec/30_encoding.md R120) -/

/-- The state in which the operation of a byte delivered at clock `now` runs. -/
def State.taking (s : State) (now : W64) : State :=
  { s with env := { s.env with pending := [], now := now, answers := [], rxTaken := true } }

section Feed
variable {s t : State} {b : Byte} {i : Instr} {now : W64} {xs : List Byte}

theorem step_of_selects (hen : s.ctl.rxEn = true) (hsel : Selects s b i) :
    step { s with env := { s.env with pending := [.link b now] } } = exec i (s.taking now) :=
  (step_link_enabled (s := { s with env := { s.env with pending := [.link b now] } }) rfl hen).trans
    (congrArg (exec · (s.taking now)) hsel)

theorem feed_cons (hen : s.ctl.rxEn = true) (hsel : Selects s b i) (hex : Gives i (s.taking now) t) (bs : List Byte) :
    feed now (b :: bs) s = feed now bs t := by
  rw [feed, (step_of_selects hen hsel).trans hex]

theorem feed_singleton (hen : s.ctl.rxEn = true) (hsel : Selects s b i) : feed now [b] s = exec i (s.taking now) := by
  rw [feed, step_of_selects hen hsel]
  cases exec i (s.taking now) <;> rfl

theorem feed_append (h : feed now xs s = .next t) (ys : List Byte) : feed now (xs ++ ys) s = feed now ys t := by
  induction xs generalizing s with
  | nil => cases h; rfl
  | cons b xs ih =>
    rw [feed] at h
    rw [List.cons_append, feed]
    split at h
    · exact ih h
    · cases h
    · cases h

/-- What holds of the bytes read so far, and each further byte extends, holds of them all: the one induction over a part of a
frame. `f` gives the wire bytes of a byte. -/
theorem feed_all {R : List Byte → State → Prop} {f : Byte → List Byte} {whole : List Byte}
    (hbyte : ∀ done b rest u, done ++ b :: rest = whole → R done u → ∃ t, feed now (f b) u = .next t ∧ R (done ++ [b]) t)
    (rest done : List Byte) (hwhole : done ++ rest = whole) (hs : R done s) :
    ∃ t, feed now (rest.flatMap f) s = .next t ∧ R whole t := by
  induction rest generalizing done s with
  | nil => exact ⟨s, rfl, by rwa [← hwhole, List.append_nil]⟩
  | cons b rest ih =>
    obtain ⟨u, hu, hR⟩ := hbyte done b rest s hwhole hs
    obtain ⟨t, ht, hRt⟩ := ih (done ++ [b]) (by rw [List.append_assoc]; exact hwhole) hR
    exact ⟨t, by rw [List.flatMap_cons, feed_append hu, ht], hRt⟩

theorem stuff_eq_flatMap (S E : Byte) (xs : List Byte) : stuff S E xs = xs.flatMap fun b => stuff S E [b] := by
  induction xs with
  | nil => rfl
  | cons b xs ih => rw [List.flatMap_cons, ← ih]; exact stuff_append S E [b] xs

end Feed

/-! ### What stays as it is until the packet is committed -/

/-- The parameters, the control registers and the FIFOs of `t` are those of `s`. -/
structure Undisturbed (s t : State) : Prop where
  params : t.params = s.params
  ctl    : t.ctl = s.ctl
  queue  : ∀ q, (t.rxp q).queue = (s.rxp q).queue

/-- `e` is a fresh packet of priority `p`, with its commit time, that the block in state `s` is ready to commit. -/
structure Receivable (s : State) (p : Prio) (e : RxEntry) : Prop where
  legal    : s.params.Legal
  rxEn     : s.ctl.rxEn = true
  prio     : p.toNat < s.params.nPrio
  length   : e.content.length = e.len.toNat
  capacity : e.len.toNat ≤ s.params.capacity
  header   : ∀ b ∈ (canonHdr s.params.startTok p e.seq e.len e.init e.ack).drop 1,
               b ≠ s.params.startTok ∧ b ≠ s.params.escTok
  resync   : s.ctl.lastStartResync = false ∨
               (e.content.getLast? ≠ some s.params.startTok ∧ BitVec.ofNat 8 e.csum.toNat ≠ s.params.startTok)
  csum     : e.csum = packetSum s.params p e.seq e.len e.init e.ack e.content
  accepted : accepts s.params.rxAccept { prio := p, seq := e.seq, len := e.len, cont := false, init := e.init, ack := e.ack,
                                         csum := e.csum, content := e.content } = true
  room     : (s.rxp p).queue.length < s.params.qdepth

section Undisturbed
variable {s t u : State} {p : Prio} {e : RxEntry}

theorem Undisturbed.refl (s : State) : Undisturbed s s := ⟨rfl, rfl, fun _ => rfl⟩

theorem Undisturbed.trans (h : Undisturbed s t) (k : Undisturbed t u) : Undisturbed s u :=
  ⟨k.params.trans h.params, k.ctl.trans h.ctl, fun q => (k.queue q).trans (h.queue q)⟩

theorem Undisturbed.taking (s : State) (now : W64) : Undisturbed s (s.taking now) := ⟨rfl, rfl, fun _ => rfl⟩

theorem Undisturbed.withDeframer (s : State) (d : Deframer) : Undisturbed s { s with rx := d } := ⟨rfl, rfl, fun _ => rfl⟩

theorem Undisturbed.interrupted (s : State) (buf : Vector Byte 13) (cnt : BitVec 4) :
    Undisturbed s (Claims.interrupted s buf cnt) := ⟨rfl, rfl, setRxp_queue rfl⟩

theorem Receivable.congr (h : Receivable s p e) (hu : Undisturbed s t) : Receivable t p e := by
  obtain ⟨hp, hc, hq⟩ := hu
  exact ⟨hp ▸ h.legal, hc ▸ h.rxEn, hp ▸ h.prio, h.length, hp ▸ h.capacity, hp ▸ h.header, by rw [hp, hc]; exact h.resync,
    hp ▸ h.csum, hp ▸ h.accepted, by rw [hp, hq]; exact h.room⟩

end Undisturbed

/-! ### A buffer filled from its front -/

/-- The first bytes of a buffer are `xs`. -/
def StartsWith {n : Nat} (v : Vector Byte n) (xs : List Byte) : Prop := v.toList.take xs.length = xs

section Buffer
variable {n : Nat} {v : Vector Byte n} {xs : List Byte}

theorem StartsWith.nil (v : Vector Byte n) : StartsWith v [] := rfl

theorem StartsWith.push (h : StartsWith v xs) {i : Nat} (hi : i = xs.length) (hlt : i < n) (b : Byte) :
    StartsWith (v.setIfInBounds i b) (xs ++ [b]) := by
  subst hi
  have hset : (v.setIfInBounds xs.length b).toList = v.toList.set xs.length b := by
    simp
  have hlast : (v.toList.set xs.length b)[xs.length]? = some b := List.getElem?_set_self (by simpa using hlt)
  rw [StartsWith, List.length_append, List.length_singleton, hset, List.take_add_one, hlast,
    List.take_set_of_le (Nat.le_refl _), h]
  rfl

/-- A counter of the bytes read counts one more. -/
theorem toNat_succ_eq_length {w : Nat} {x : BitVec w} (hx : x.toNat = xs.length) (hlt : xs.length + 1 < 2 ^ w) (b : Byte) :
    (x + 1).toNat = (xs ++ [b]).length := by
  have hone : (1 : BitVec w).toNat = 1 := Nat.mod_eq_of_lt ((Nat.le_add_left 1 xs.length).trans_lt hlt)
  rw [BitVec.toNat_add_of_lt (by rw [hone, hx]; exact hlt), hone, hx, List.length_append, List.length_singleton]

theorem StartsWith.toList_eq (h : StartsWith v xs) (hlen : xs.length = n) : v.toList = xs := by
  rw [StartsWith, List.take_of_length_le (by simp [hlen])] at h
  exact h

end Buffer

/-! ### The header (R142, R147, R149) -/

/-- The deframer has read the header bytes `xs`. -/
structure HeaderRead (s : State) (xs : List Byte) : Prop where
  dstate : s.rx.dstate = .readingHeader
  count  : s.rx.hdrCnt.toNat = xs.length
  bytes  : StartsWith s.rx.hdrBuf xs

section Header
variable {s : State} {p : Prio} {e : RxEntry} {b : Byte} {now : W64} {xs : List Byte}

/-- A start token has been read as the first byte of a header, or is held where it may be data. -/
def StartTokenRead (s : State) : Prop :=
  HeaderRead s [s.params.startTok] ∨ s.rx.dstate = .disambiguateContent ∨ s.rx.dstate = .disambiguateFooter

/-- Whatever the deframer was doing, it reads the start token of a frame (R145, R147, R156, R157, R160, R162, R163, R171). -/
theorem feed_startToken (h : Sound s) (hen : s.ctl.rxEn = true) :
    ∃ t, feed now [s.params.startTok] s = .next t ∧ Undisturbed s t ∧ StartTokenRead t := by
  obtain ⟨hselects, hgives, -⟩ := interruptionKeepsOffset
  obtain ⟨hrcLast, hrfLast, hdstc, hdstf⟩ := hselects s h.params
  obtain ⟨hselContent, hselFooter, hholdContent, hholdFooter⟩ := startTokenHeld
  have hone : StartsWith (s.rx.hdrBuf.setIfInBounds 0 s.params.startTok) [s.params.startTok] :=
    (StartsWith.nil _).push rfl (by simp) _
  have hinterrupt {i : Instr} (hsel : Selects s s.params.startTok i)
      (hi : i = .dfRcStartLast ∨ i = .dfRfStartLast ∨ i = .dfDstcStart ∨ i = .dfDstfStart) :
      ∃ t, feed now [s.params.startTok] s = .next t ∧ Undisturbed s t ∧ StartTokenRead t :=
    ⟨_, feed_cons hen hsel (hgives _ i hi) [], (Undisturbed.taking s now).trans (.interrupted ..), .inl ⟨rfl, rfl, hone⟩⟩
  cases hd : s.rx.dstate with
  | waitingForPacket =>
    obtain ⟨hsel, hstart, -⟩ := waitingForPacketBytes
    exact ⟨_, feed_cons hen (hsel s hd).1 (hstart _) [], (Undisturbed.taking s now).trans (.withDeframer _ _),
      .inl ⟨rfl, rfl, hone⟩⟩
  | readingHeader =>
    obtain ⟨hsel, hrestart, -⟩ := tokensInHeader
    exact ⟨_, feed_cons hen (hsel s h.params hd).1 (hrestart _) [], (Undisturbed.taking s now).trans (.withDeframer _ _),
      .inl ⟨rfl, rfl, hone⟩⟩
  | readingContent =>
    by_cases hlast : s.ctl.lastStartResync = true ∧ s.rx.curOff + 1 = (s.rxp s.rx.rxCur).slot.len
    · exact hinterrupt (hrcLast hd hlast.1 hlast.2) (.inl rfl)
    · exact ⟨_, feed_cons hen (hselContent s hd hlast) (hholdContent _) [],
        (Undisturbed.taking s now).trans (.withDeframer _ _), .inr (.inl rfl)⟩
  | disambiguateContent => exact hinterrupt (hdstc hd).1 (.inr (.inr (.inl rfl)))
  | readingFooter =>
    by_cases hlast : s.ctl.lastStartResync = true ∧ s.rx.ftrPos + 1 = 4
    · exact hinterrupt (hrfLast hd hlast.1 hlast.2) (.inr (.inl rfl))
    · exact ⟨_, feed_cons hen (hselFooter s hd hlast) (hholdFooter _) [],
        (Undisturbed.taking s now).trans (.withDeframer _ _), .inr (.inr rfl)⟩
  | disambiguateFooter => exact hinterrupt (hdstf hd).1 (.inr (.inr (.inr rfl)))
  | reserved6 => exact absurd hd h.deframer.dstate.1
  | reserved7 => exact absurd hd h.deframer.dstate.2

/-- A header byte before the last (R149). -/
theorem feed_headerByte (hen : s.ctl.rxEn = true) (h : HeaderRead s xs) (hlt : xs.length < 12) (hS : b ≠ s.params.startTok)
    (hE : b ≠ s.params.escTok) :
    ∃ t, feed now [b] s = .next t ∧ Undisturbed s t ∧ HeaderRead t (xs ++ [b]) := by
  obtain ⟨hd, hcnt, hbytes⟩ := h
  exact ⟨_, feed_cons hen (headerByteStored.1 s b hd hS hE) (headerByteStored.2 (s.taking now) b (hcnt.trans_lt hlt)) [],
    (Undisturbed.taking s now).trans (.withDeframer _ _), hd, toNat_succ_eq_length hcnt (by omega) b,
    hbytes.push hcnt (by omega) b⟩

/-- The byte after a start token that was held tells that a header had begun (R161, R172). -/
theorem feed_afterHeld (hP : s.params.Legal) (hen : s.ctl.rxEn = true)
    (hd : s.rx.dstate = .disambiguateContent ∨ s.rx.dstate = .disambiguateFooter) (hS : b ≠ s.params.startTok)
    (hE : b ≠ s.params.escTok) :
    ∃ t, feed now [b] s = .next t ∧ Undisturbed s t ∧ HeaderRead t [s.params.startTok, b] := by
  obtain ⟨hselects, -, hgives⟩ := interruptionKeepsOffset
  have htwo : StartsWith ((s.rx.hdrBuf.setIfInBounds 0 s.params.startTok).setIfInBounds 1 b) [s.params.startTok, b] :=
    ((StartsWith.nil _).push rfl (by simp) _).push rfl (by simp) _
  have hinterrupt {i : Instr} (hsel : Selects s b i) (hi : i = .dfDstcOther b ∨ i = .dfDstfOther b) :
      ∃ t, feed now [b] s = .next t ∧ Undisturbed s t ∧ HeaderRead t [s.params.startTok, b] :=
    ⟨_, feed_cons hen hsel (hgives _ b i hi) [], (Undisturbed.taking s now).trans (.interrupted ..), rfl, rfl, htwo⟩
  obtain ⟨-, -, hdstc, hdstf⟩ := hselects s hP
  rcases hd with hd | hd
  · exact hinterrupt ((hdstc hd).2 b hS hE) (.inl rfl)
  · exact hinterrupt ((hdstf hd).2 b hS hE) (.inr rfl)

/-- After two bytes of a frame the deframer has read two header bytes, whatever it was doing (R175). -/
theorem feed_headerStart (h : Sound s) (hen : s.ctl.rxEn = true) (hS : b ≠ s.params.startTok) (hE : b ≠ s.params.escTok) :
    ∃ t, feed now [s.params.startTok, b] s = .next t ∧ Undisturbed s t ∧ HeaderRead t [s.params.startTok, b] := by
  obtain ⟨u, hu, hsu, hread⟩ := feed_startToken (now := now) h hen
  have henu : u.ctl.rxEn = true := by rw [hsu.ctl, hen]
  rw [← hsu.params] at hS hE
  obtain ⟨t, ht, hut, hreadt⟩ :
      ∃ t, feed now [b] u = .next t ∧ Undisturbed u t ∧ HeaderRead t [u.params.startTok, b] := by
    rcases hread with hread | hheld
    · exact feed_headerByte henu hread (by simp) hS hE
    · exact feed_afterHeld (hsu.params ▸ h.params) henu hheld hS hE
  exact ⟨t, (feed_append hu [b]).trans ht, hsu.trans hut, hsu.params ▸ hreadt⟩

/-- The header of a fresh packet, split before its last byte. -/
theorem canonHdr_eq (S : Byte) (p : Prio) (seq : W64) (len : W16) (init ack : Bool) :
    canonHdr S p seq len init ack =
      (S :: prioByte p :: (beBytes 8 seq.toNat ++ beBytes 2 len.toNat)) ++ [flagsByte false init ack] := by
  simp [canonHdr, headerBytes]

/-- The header bytes before the last, the third to the twelfth being `mid`. -/
theorem feed_headerBody {c : Byte} {mid : List Byte} (h : Sound s) (hen : s.ctl.rxEn = true) (hlen : mid.length = 10)
    (htok : ∀ b ∈ c :: mid, b ≠ s.params.startTok ∧ b ≠ s.params.escTok) :
    ∃ t, feed now (s.params.startTok :: c :: mid) s = .next t ∧ Undisturbed s t ∧
      HeaderRead t (s.params.startTok :: c :: mid) := by
  have hc := htok c List.mem_cons_self
  obtain ⟨u, hu, hsu, hread⟩ := feed_headerStart (now := now) h hen hc.1 hc.2
  obtain ⟨t, ht, hst, hreadt⟩ := feed_all (now := now) (f := fun b => [b])
    (R := fun xs v => Undisturbed s v ∧ HeaderRead v (s.params.startTok :: c :: xs)) (whole := mid)
    (fun done b rest v hwhole ⟨hsv, hreadv⟩ => by
      have hb := htok b (by simp [← hwhole])
      rw [← hsv.params] at hb
      have hlt : (s.params.startTok :: c :: done).length < 12 := by
        simp only [← hwhole, List.length_append, List.length_cons] at hlen ⊢; omega
      obtain ⟨t, ht, hvt, hreadt⟩ := feed_headerByte (by rw [hsv.ctl, hen]) hreadv hlt hb.1 hb.2
      exact ⟨t, ht, hsv.trans hvt, hreadt⟩)
    mid [] rfl ⟨hsu, hread⟩
  rw [List.flatMap_singleton'] at ht
  exact ⟨t, (feed_append hu mid).trans ht, hst, hreadt⟩

end Header

/-! ### Content and footer (R144, R153, R156 to R159, R162, R164, R165, R170) -/

/-- The first bytes of a slot's content are `xs`. -/
def Memory.Holds (m : Memory) (xs : List Byte) : Prop := ∀ i, i < xs.length → Memory.read? m i = xs[i]?

theorem Memory.Holds.write {m : Memory} {xs : List Byte} (h : m.Holds xs) {i : Nat} (hi : i = xs.length) (b : Byte) :
    (m.write i b).Holds (xs ++ [b]) := by
  intro j hj
  rw [Memory.read?_write, hi]
  split
  · next heq => rw [heq, List.getElem?_concat_length]
  · next hne =>
    have hlt : j < xs.length := by rw [List.length_append, List.length_singleton] at hj; omega
    rw [h j hlt, List.getElem?_append_left hlt]

theorem Memory.Holds.contentBytes_eq {m : Memory} {xs : List Byte} (h : m.Holds xs) (s : State) (side : Side) (p : Prio) :
    s.contentBytes side p m 0 xs.length = xs :=
  State.contentBytes_eq s side p m xs fun i hi => (h i hi).trans (List.getElem?_eq_getElem hi)

/-- The packet being received is `e` of priority `p`: its header was accepted, and of its content and of its footer the bytes `xs`
and `fs` are stored. -/
structure Assembles (s : State) (p : Prio) (e : RxEntry) (xs fs : List Byte) : Prop where
  rxCur   : s.rx.rxCur = p
  seq     : (s.rxp p).slot.seq = e.seq
  len     : (s.rxp p).slot.len = e.len
  init    : (s.rxp p).slot.init = e.init
  ack     : (s.rxp p).slot.ack = e.ack
  curOff  : s.rx.curOff.toNat = xs.length
  content : (s.rxp p).slot.content.Holds xs
  ftrPos  : s.rx.ftrPos.toNat = fs.length
  footer  : StartsWith s.rx.ftrBuf fs

/-- The deframer's state when the content bytes `xs` of `e` have been read. -/
def bodyState (e : RxEntry) (xs : List Byte) : DState :=
  if xs.length = e.len.toNat then .readingFooter else .readingContent

section Body
variable {s : State} {p : Prio} {e : RxEntry} {b : Byte} {now : W64} {xs fs : List Byte}

/-- What is stored does not depend on the interfaces and on whether a start token is held. -/
theorem Assembles.takingIn (h : Assembles s p e xs fs) (now : W64) (d : DState) :
    Assembles ((s.taking now).toDState d) p e xs fs := by
  exact ⟨h.rxCur, h.seq, h.len, h.init, h.ack, h.curOff, h.content, h.ftrPos, h.footer⟩

theorem Undisturbed.takingIn (s : State) (now : W64) (d : DState) : Undisturbed s ((s.taking now).toDState d) :=
  ⟨rfl, rfl, fun _ => rfl⟩

/-- The last header byte of a fresh packet (R153). -/
theorem HeaderRead.complete (h : HeaderRead s xs) (hr : Receivable s p e)
    (hxs : xs ++ [b] = canonHdr s.params.startTok p e.seq e.len e.init e.ack) :
    ∃ t, Gives (.dfRhByte b) s t ∧ Undisturbed s t ∧ Assembles t p e [] [] ∧ t.rx.dstate = bodyState e [] := by
  have hlen : xs.length = 12 := by
    have := congrArg List.length hxs
    rw [canonHdr, headerBytes_length, List.length_append, List.length_singleton] at this; omega
  have hcnt : s.rx.hdrCnt = 12 := BitVec.eq_of_toNat_eq (h.count.trans hlen)
  have hv : (s.rx.hdrBuf.setIfInBounds 12 b).toList = headerBytes s.params.startTok p e.seq e.len false e.init e.ack :=
    ((h.bytes.push hlen.symm (by omega) b).toList_eq (by simp [hlen])).trans hxs
  have hprio : BitVec.ofNat 4 (prioByte p).toNat = p := by rw [prioByte_toNat, BitVec.ofNat_toNat, BitVec.setWidth_eq]
  obtain ⟨-, -, hfresh, -, -⟩ := completedHeader s b hcnt
  rw [hdrPrioByte_of_header hv, hdrFlags_of_header hv, hdrLength_of_header hv, hdrSeq_of_header hv, hprio,
    flagInit_flagsByte, flagAck_flagsByte] at hfresh
  have hgives := hfresh (by rw [prioByte_toNat]; exact hr.prio) flagCont_flagsByte hr.capacity
  have hzero : e.len = 0 ↔ ([] : List Byte).length = e.len.toNat :=
    ⟨fun h0 => by rw [h0]; rfl, fun h0 => BitVec.eq_of_toNat_eq h0.symm⟩
  refine ⟨_, hgives, ⟨rfl, rfl, setRxp_queue rfl⟩,
    ⟨rfl, ?slotSeq, ?slotLen, ?slotInit, ?slotAck, rfl, nofun, rfl, .nil _⟩, ?dstate⟩
  case dstate => exact if_congr hzero rfl rfl
  all_goals simp only [State.mk_rxp, bankGet_rxPrio, State.setRxp_rxp_self]

/-- The wire bytes of one byte inside a frame run one store of it: a start token is held, and the escape token stores it; every
other byte is stored at once. The states in which the store runs differ in `dstate` only. -/
theorem feed_stuffed {held esc other : Instr} {d : DState} {store : State → Host.Outcome State Fault Refusal}
    (hen : s.ctl.rxEn = true) (hstart : b = s.params.startTok → Selects s s.params.startTok held)
    (hheld : Gives held (s.taking now) ((s.taking now).toDState d))
    (hesc : Selects ((s.taking now).toDState d) s.params.escTok esc)
    (hescStore : b = s.params.startTok → exec esc ((s.taking now).toDState d) = store ((s.taking now).toDState d))
    (hother : b ≠ s.params.startTok → Selects s b other) (hotherStore : exec other (s.taking now) = store (s.taking now)) :
    ∃ d, feed now (stuff s.params.startTok s.params.escTok [b]) s = store ((s.taking now).toDState d) := by
  by_cases hb : b = s.params.startTok
  · have hfeed : feed now [s.params.escTok] ((s.taking now).toDState d) = exec esc ((s.taking now).toDState d) :=
      feed_singleton hen hesc
    exact ⟨d, by rw [hb, stuff_cons_start, stuff_nil, feed_cons hen (hstart hb) hheld, hfeed, hescStore hb]⟩
  · have hsame : (s.taking now).toDState s.rx.dstate = s.taking now := rfl
    exact ⟨s.rx.dstate, by
      rw [stuff_cons_other _ _ _ _ hb, stuff_nil, hsame, feed_singleton hen (hother hb), hotherStore]⟩

/-- A content byte (R156, R158, R159). -/
theorem feed_stuffed_content (hen : s.ctl.rxEn = true) (hd : s.rx.dstate = .readingContent)
    (hlast : b = s.params.startTok →
      ¬ (s.ctl.lastStartResync = true ∧ s.rx.curOff + 1 = (s.rxp s.rx.rxCur).slot.len)) :
    ∃ d, feed now (stuff s.params.startTok s.params.escTok [b]) s = ((s.taking now).toDState d).storeContent b := by
  obtain ⟨hselects, -, hgives, -⟩ := startTokenHeld
  obtain ⟨hbyte, hesc, -⟩ := contentByteStored
  exact feed_stuffed (store := (State.storeContent · b)) hen (fun hb => hselects s hd (hlast hb)) (hgives _) (hesc _ rfl)
    (fun hb => hb ▸ rfl) (hbyte s b hd) rfl

/-- A footer byte (R162, R164, R170). -/
theorem feed_stuffed_footer (hen : s.ctl.rxEn = true) (hd : s.rx.dstate = .readingFooter)
    (hlast : b = s.params.startTok → ¬ (s.ctl.lastStartResync = true ∧ s.rx.ftrPos + 1 = 4)) :
    ∃ d, feed now (stuff s.params.startTok s.params.escTok [b]) s = ((s.taking now).toDState d).storeFooter b := by
  obtain ⟨-, hselects, -, hgives⟩ := startTokenHeld
  obtain ⟨hbyte, hesc, -⟩ := footerByteStored
  exact feed_stuffed (store := (State.storeFooter · b)) hen (fun hb => hselects s hd (hlast hb)) (hgives _) (hesc _ rfl)
    (fun hb => hb ▸ rfl) (hbyte s b hd) rfl

/-- The next content byte is the last exactly where the offset after it is the length. -/
theorem Assembles.next_eq_len_iff (h : Assembles s p e xs fs) (hlt : xs.length < e.len.toNat) :
    s.rx.curOff + 1 = (s.rxp s.rx.rxCur).slot.len ↔ xs.length + 1 = e.len.toNat := by
  have hnext : (s.rx.curOff + 1).toNat = s.rx.curOff.toNat + 1 :=
    BitVec.toNat_add_of_lt (by have := h.curOff; have := e.len.isLt; simp; omega)
  rw [h.rxCur, h.len, ← h.curOff, ← hnext, BitVec.toNat_inj]

/-- `StoreContent` of the next byte (R144). -/
theorem Assembles.storeContent (h : Assembles s p e xs []) (hlt : xs.length < e.len.toNat)
    (hcap : e.len.toNat ≤ s.params.capacity) (b : Byte) :
    ∃ t, s.storeContent b = .next t ∧ Undisturbed s t ∧ Assembles t p e (xs ++ [b]) [] ∧
      t.rx.dstate = bodyState e (xs ++ [b]) := by
  have hiff := h.next_eq_len_iff hlt
  obtain ⟨rfl, hseq, hlen, hinit, hack, hoff, hcontent, hpos, hftr⟩ := h
  obtain ⟨-, t, ht, rfl⟩ | ⟨hge, -⟩ := s.storeContent_cases b
  · have hbound := e.len.isLt
    refine ⟨_, ht, ⟨rfl, rfl, setRxp_queue rfl⟩,
      ⟨rfl, ?slotSeq, ?slotLen, ?slotInit, ?slotAck, toNat_succ_eq_length hoff (by omega) b, ?content, ?pos, .nil _⟩, ?dstate⟩
    case pos =>
      have hzero : s.rx.ftrPos = 0 := BitVec.eq_of_toNat_eq hpos
      dsimp only
      rw [hzero, ite_self]; rfl
    case dstate => exact if_congr (hiff.trans (by rw [List.length_append, List.length_singleton])) rfl rfl
    all_goals simp only [State.mk_rxp, bankGet_rxPrio, State.setRxp_rxp_self]
    case content => exact hcontent.write hoff b
    all_goals assumption
  · omega

/-- `StoreFooter` before the fourth byte (R165). -/
theorem Assembles.storeFooter (h : Assembles s p e xs fs) (hlt : fs.length < 3) (b : Byte) :
    ∃ t, s.storeFooter b = .next t ∧ Undisturbed s t ∧ Assembles t p e xs (fs ++ [b]) ∧ t.rx.dstate = .readingFooter := by
  obtain ⟨hcur, hseq, hlen, hinit, hack, hoff, hcontent, hpos, hftr⟩ := h
  obtain ⟨-, ht⟩ | ⟨heq, -⟩ | ⟨hge, -⟩ := s.storeFooter_cases b
  · exact ⟨_, ht, .withDeframer _ _, ⟨hcur, hseq, hlen, hinit, hack, hoff, hcontent, toNat_succ_eq_length hpos (by omega) b,
      hftr.push hpos (by omega) b⟩, rfl⟩
  · rw [heq] at hpos; exact absurd (hpos ▸ hlt) (by decide)
  · omega

/-- `StoreFooter` of the fourth byte, where nothing speaks against the packet (R165 to R169). -/
theorem Assembles.completeFooter (h : Assembles s p e e.content fs) (hr : Receivable s p e)
    (hfs : fs ++ [b] = footerBytes e.csum) (hnow : s.env.now = e.commitTime) :
    ∃ t, s.storeFooter b = .next t ∧ t.rx.dstate = .waitingForPacket ∧ (t.rxp p).queue = (s.rxp p).queue ++ [e] ∧
      ∀ q, q ≠ p → (t.rxp q).queue = (s.rxp q).queue := by
  obtain ⟨rfl, hseq, hlen, hinit, hack, hoff, hcontent, hpos, hftr⟩ := h
  have hfslen : fs.length = 3 := by
    have := congrArg List.length hfs
    rw [footerBytes_length, List.length_append, List.length_singleton] at this; omega
  have hpos3 : s.rx.ftrPos = 3 := BitVec.eq_of_toNat_eq (hpos.trans hfslen)
  have hbuf : (s.rx.ftrBuf.setIfInBounds 3 b).toList = footerBytes e.csum :=
    ((hftr.push hfslen.symm (by omega) b).toList_eq (by simp [hfslen])).trans hfs
  have hrecv : BitVec.ofNat 32 (beVal (footerBytes e.csum)) = e.csum := ofNat_beVal_beBytes 4 (by decide) e.csum
  have hbytes : s.contentBytes .rx s.rx.rxCur (s.rxp s.rx.rxCur).slot.content 0 e.len.toNat = e.content :=
    hr.length ▸ hcontent.contentBytes_eq s .rx _
  obtain ⟨-, -, -, hcommit⟩ := (completedFooter s b hpos3).1
  rw [hbuf, hseq, hlen, hinit, hack, hrecv, hbytes] at hcommit
  refine ⟨_, hcommit hr.csum hr.accepted hr.room.ne, rfl, ?same, fun q hq => ?other⟩
  all_goals simp only [State.mk_rxp, bankGet_rxPrio]
  case same => rw [State.setRxp_rxp_self, hnow]
  case other => rw [State.setRxp_rxp_ne _ _ _ _ hq]

/-- The header (R100, R175). -/
theorem feed_header (h : Sound s) (hr : Receivable s p e) :
    ∃ t, feed now (canonHdr s.params.startTok p e.seq e.len e.init e.ack) s = .next t ∧ Undisturbed s t ∧
      Assembles t p e [] [] ∧ t.rx.dstate = bodyState e [] := by
  have htok := hr.header
  have hmid : (beBytes 8 e.seq.toNat ++ beBytes 2 e.len.toNat).length = 10 := by simp
  have hsplit := canonHdr_eq s.params.startTok p e.seq e.len e.init e.ack
  simp only [hsplit, List.cons_append, List.drop_succ_cons, List.drop_zero] at htok
  obtain ⟨u, hu, hsu, hread⟩ := feed_headerBody (now := now) h hr.rxEn hmid fun c hc => htok c (by simp at hc ⊢; tauto)
  have hru := hr.congr hsu
  have hlast := htok (flagsByte false e.init e.ack) (by simp)
  rw [← hsu.params] at hlast
  obtain ⟨t, ht, hut, ha, hd⟩ := HeaderRead.complete (s := u.taking now) ⟨hread.dstate, hread.count, hread.bytes⟩
    (hru.congr (.taking u now)) (b := flagsByte false e.init e.ack) (by rw [State.taking, hsu.params, hsplit])
  refine ⟨t, ?_, (hsu.trans (.taking u now)).trans hut, ha, hd⟩
  rw [hsplit, feed_append hu]
  exact feed_cons hru.rxEn (headerByteStored.1 u _ hread.dstate hlast.1 hlast.2) ht []

/-- Under LAST_START_RESYNC a start token is not the last content byte (R157). -/
theorem Receivable.not_last_start {rest : List Byte} (hr : Receivable s p e) (ha : Assembles s p e xs fs)
    (hwhole : xs ++ b :: rest = e.content) (hb : b = s.params.startTok) :
    ¬ (s.ctl.lastStartResync = true ∧ s.rx.curOff + 1 = (s.rxp s.rx.rxCur).slot.len) := by
  rintro ⟨hlsr, hend⟩
  have hlen : (xs ++ b :: rest).length = e.len.toNat := by rw [hwhole, hr.length]
  rw [List.length_append, List.length_cons] at hlen
  have hlast : xs.length + 1 = e.len.toNat := (ha.next_eq_len_iff (by omega)).1 hend
  obtain rfl : rest = [] := List.eq_nil_of_length_eq_zero (by omega)
  rcases hr.resync with hoff | ⟨hcontent, -⟩
  · rw [hoff] at hlsr; cases hlsr
  · exact hcontent (by rw [← hwhole, List.getLast?_concat, hb])

/-- The stuffed content. -/
theorem feed_content (hr : Receivable s p e) (ha : Assembles s p e [] []) (hd : s.rx.dstate = bodyState e []) :
    ∃ t, feed now (stuff s.params.startTok s.params.escTok e.content) s = .next t ∧ Undisturbed s t ∧
      Assembles t p e e.content [] ∧ t.rx.dstate = .readingFooter := by
  rw [stuff_eq_flatMap]
  obtain ⟨t, ht, hst, hat, hdt⟩ := feed_all (now := now) (f := fun b => stuff s.params.startTok s.params.escTok [b])
    (R := fun xs v => Undisturbed s v ∧ Assembles v p e xs [] ∧ v.rx.dstate = bodyState e xs) (whole := e.content)
    (fun done b rest v hwhole ⟨hsv, hav, hdv⟩ => by
      have hrv := hr.congr hsv
      have hlt : done.length < e.len.toNat := by
        rw [← hr.length, ← hwhole, List.length_append, List.length_cons]; omega
      obtain ⟨d, hfeed⟩ := feed_stuffed_content (now := now) hrv.rxEn (hdv.trans (if_neg hlt.ne))
        (hrv.not_last_start hav hwhole)
      obtain ⟨t, ht, hut, hat, hdt⟩ := (hav.takingIn now d).storeContent hlt hrv.capacity b
      rw [hsv.params] at hfeed
      exact ⟨t, hfeed.trans ht, (hsv.trans (.takingIn v now d)).trans hut, hat, hdt⟩)
    e.content [] rfl ⟨.refl s, ha, hd⟩
  exact ⟨t, ht, hst, hat, hdt.trans (if_pos hr.length)⟩

/-- A footer, split before its last byte. -/
theorem footerBytes_eq (csum : W32) : footerBytes csum = beBytes 3 (csum.toNat / 256) ++ [BitVec.ofNat 8 csum.toNat] := rfl

/-- The stuffed footer bytes before the last. -/
theorem feed_footerBody {whole : List Byte} (hlen : whole.length = 3) (hen : s.ctl.rxEn = true)
    (ha : Assembles s p e xs []) (hd : s.rx.dstate = .readingFooter) :
    ∃ t, feed now (stuff s.params.startTok s.params.escTok whole) s = .next t ∧ Undisturbed s t ∧
      Assembles t p e xs whole ∧ t.rx.dstate = .readingFooter := by
  rw [stuff_eq_flatMap]
  refine feed_all (R := fun fs v => Undisturbed s v ∧ Assembles v p e xs fs ∧ v.rx.dstate = .readingFooter)
    (fun done b rest v hwhole ⟨hsv, hav, hdv⟩ => ?_) whole [] rfl ⟨.refl s, ha, hd⟩
  have hlt : done.length < 3 := by
    rw [← hlen, ← hwhole, List.length_append, List.length_cons]; omega
  have hnotlast : ¬ (v.ctl.lastStartResync = true ∧ v.rx.ftrPos + 1 = 4) := by
    rintro ⟨-, hend⟩
    have := toNat_succ_eq_length hav.ftrPos (by omega) b
    rw [hend, List.length_append, List.length_singleton] at this
    simp at this; omega
  obtain ⟨d, hfeed⟩ := feed_stuffed_footer (now := now) (b := b) (hsv.ctl ▸ hen) hdv fun _ => hnotlast
  obtain ⟨t, ht, hut, hat, hdt⟩ := (hav.takingIn now d).storeFooter hlt b
  rw [hsv.params] at hfeed
  exact ⟨t, hfeed.trans ht, (hsv.trans (.takingIn v now d)).trans hut, hat, hdt⟩

/-- The stuffed footer. -/
theorem feed_footer (hr : Receivable s p e) (ha : Assembles s p e e.content []) (hd : s.rx.dstate = .readingFooter)
    (hnow : now = e.commitTime) :
    ∃ t, feed now (stuff s.params.startTok s.params.escTok (footerBytes e.csum)) s = .next t ∧
      t.rx.dstate = .waitingForPacket ∧ (t.rxp p).queue = (s.rxp p).queue ++ [e] ∧
      ∀ q, q ≠ p → (t.rxp q).queue = (s.rxp q).queue := by
  obtain ⟨u, hu, hsu, hau, hdu⟩ := feed_footerBody (now := now) (beBytes_length 3 (e.csum.toNat / 256)) hr.rxEn ha hd
  have hru := hr.congr hsu
  have hlast (hb : BitVec.ofNat 8 e.csum.toNat = u.params.startTok) :
      ¬ (u.ctl.lastStartResync = true ∧ u.rx.ftrPos + 1 = 4) := by
    rintro ⟨hlsr, -⟩
    rcases hru.resync with hoff | ⟨-, hne⟩
    · rw [hoff] at hlsr; cases hlsr
    · exact hne hb
  obtain ⟨d, hfeed⟩ := feed_stuffed_footer (now := now) hru.rxEn hdu hlast
  obtain ⟨t, ht, hdt, hqueue, hother⟩ := (hau.takingIn now d).completeFooter (hru.congr (.takingIn u now d))
    (footerBytes_eq e.csum).symm hnow
  rw [hsu.params] at hfeed
  refine ⟨t, ?_, hdt, hqueue.trans (congrArg (· ++ [e]) (hsu.queue p)), fun q hq => (hother q hq).trans (hsu.queue q)⟩
  rw [footerBytes_eq, stuff_append, feed_append hu, hfeed, ht]

end Body

end Sys2Proof.Machine

namespace Sys2Proof.Proofs

open Sys2Proof Sys2Proof.Machine Sys2Proof.Claims

/-- Settles O59: the frame is its header, its stuffed content and its stuffed footer, and the three parts are delivered one after
the other. -/
theorem freshFrameIsCommitted : Obligations.FreshFrameIsCommitted := by
  intro s p seq init ack content now P len header csum h hen hp hcap htok hresync hacc hroom
  have hlen : content.length = len.toNat := by
    have hle : content.length ≤ 8192 := hcap.trans h.capacity_le
    rw [BitVec.toNat_ofNat, Nat.mod_eq_of_lt (by omega)]
  let e : RxEntry := ⟨seq, len, init, ack, csum, now, content⟩
  have hr : Receivable s p e :=
    ⟨h.params, hen, hp, hlen, hlen ▸ hcap, htok, hresync, rfl, hacc, hroom⟩
  obtain ⟨u, hu, hsu, hau, hdu⟩ := feed_header (now := now) h hr
  obtain ⟨v, hv, huv, hav, hdv⟩ := feed_content (now := now) (hr.congr hsu) hau hdu
  have hsv := hsu.trans huv
  obtain ⟨t, ht, hdt, hqueue, hother⟩ := feed_footer (hr.congr hsv) hav hdv rfl
  refine ⟨t, ?_, hdt, hqueue.trans (by rw [hsv.queue]), fun q hq => (hother q hq).trans (hsv.queue q)⟩
  rw [hsv.params] at ht
  rw [hsu.params] at hv
  rw [feed_append hu, stuff_append, feed_append hv, ht]

end Sys2Proof.Proofs

/-! PROOFS. Statements of spec/41_framer.md: the operation that a tick selects (R115, R202), what each operation does and where
the tick goes on (R200), and how far one tick goes (R221, R222, R225). -/

namespace Sys2Proof.Machine

open Sys2Proof Sys2Proof.Claims

/-! ### The operation of a tick (R115, R200, R220) -/

/-- The row of R115 for each engine state, where the framer is enabled. -/
def FState.row : FState → Instr
  | .gettingNextPacket => .frGnp
  | .sendingHeaderBurst => .frShb
  | .waitingForHeaderBurstIngestion => .frWhbi
  | .sendingBurst => .frSb
  | .waitingForBurstIngestion => .frWbi
  | .waitingForPartialBurstIngestion => .frWpbi
  | .halted => .frHalt
  | .reserved7 => .frReserved

section Rows
variable {s t : State} {i : Instr}

theorem tickSelects_enabled (hen : s.ctl.txEn = true) : TickSelects s i ↔ s.tx.fstate.row = i := by
  have hrow : decode s.params s.decodeCtx (.frt s.tx.fstate.code) = s.tx.fstate.row := by
    simp only [decode, decodeFrt, State.decodeCtx, hen, if_true]
    cases s.tx.fstate <;> rfl
  rw [TickSelects, hrow]

theorem tickSelects_disabled (hen : s.ctl.txEn = false) : TickSelects s i ↔ .frOff s.tx.fstate.code = i := by
  simp [TickSelects, decode, decodeFrt, State.decodeCtx, hen]

/-- Every row runs the operation of its engine state and what follows it; the reserved row faults as that operation does. -/
theorem exec_row (s : State) : exec s.tx.fstate.row s = finishTick s.tickBound (opOf s) := by
  cases h : s.tx.fstate with
  | gettingNextPacket => exact execFrGnp_eq s h
  | sendingHeaderBurst => exact execFrShb_eq s h
  | waitingForHeaderBurstIngestion => exact execFrWhbi_eq s h
  | sendingBurst => exact execFrSb_eq s h
  | waitingForBurstIngestion => exact execFrWbi_eq s h
  | waitingForPartialBurstIngestion => exact execFrWpbi_eq s h
  | halted => exact execFrHalt_eq s h
  | reserved7 => simp only [opOf, h, finishTick_fault]; rfl

theorem ofNat_toNat_mul_toNat (a b : W32) : BitVec.ofNat 64 (a.toNat * b.toNat) = a.setWidth 64 * b.setWidth 64 := by
  apply BitVec.eq_of_toNat_eq
  simp [Nat.mul_mod]

/-- `EnterWait` ends the tick in the state that the claims name (R210). -/
theorem finishTick_enterWait (k : Nat) (s : State) (next : FState) (final : Bool) :
    finishTick k (s.enterWait next final) = .next (waiting s next final) := by
  rw [State.enterWait_eq, finishTick_ret, waiting, ofNat_toNat_mul_toNat]

theorem gives_waiting {r : TickRes} {next : FState} {final : Bool} (hr : r = t.enterWait next final)
    (hexec : exec i s = finishTick s.tickBound r) : Gives i s (waiting t next final) := by
  rw [Gives, hexec, hr, finishTick_enterWait]

theorem gives_silent {r : TickRes} (hr : r = .ret t .none) (hexec : exec i s = finishTick s.tickBound r) :
    Gives i s (silent t) := by
  rw [Gives, hexec, hr, finishTick_ret, silent]

theorem waiting_eq_false_iff : s.waiting = false ↔ s.tx.waitUntil.toNat ≤ s.env.now.toNat := by
  simp [State.waiting, BitVec.lt_def]

theorem waitLeft_eq (h : s.env.now.toNat < s.tx.waitUntil.toNat) :
    s.waitLeft = .wait (BitVec.ofNat 64 (s.tx.waitUntil.toNat - s.env.now.toNat)) := by
  unfold State.waitLeft
  congr 1
  apply BitVec.eq_of_toNat_eq
  simp only [BitVec.toNat_sub, BitVec.toNat_ofNat]
  omega

end Rows

/-! ### The selection (R202) -/

section Selection
variable {s : State} {p : Prio} {e : TxEntry} {rest : List TxEntry}

theorem allPrios_pairwise : allPrios.Pairwise (·.toNat < ·.toNat) := by decide

/-- The head of a list in rising order is its least member. -/
theorem head?_eq_some_iff_of_pairwise {l : List Prio} (h : l.Pairwise (·.toNat < ·.toNat)) :
    l.head? = some p ↔ p ∈ l ∧ ∀ q ∈ l, p.toNat ≤ q.toNat := by
  cases l with
  | nil => simp
  | cons a l =>
    obtain ⟨hlt, -⟩ := List.pairwise_cons.1 h
    constructor
    · rintro ⟨⟩
      exact ⟨List.mem_cons_self, List.forall_mem_cons.2 ⟨Nat.le_refl _, fun q hq => Nat.le_of_lt (hlt q hq)⟩⟩
    · rintro ⟨hp, hle⟩
      obtain rfl | hp := List.mem_cons.1 hp
      · rfl
      · exact absurd (hle a List.mem_cons_self) (Nat.not_le_of_lt (hlt p hp))

theorem waitingPrios_pairwise (s : State) : s.waitingPrios.Pairwise (·.toNat < ·.toNat) := allPrios_pairwise.filter _

theorem select?_eq_some_iff : s.select? = some p ↔
    p.toNat < s.params.nPrio ∧ 0 < s.countTx p ∧ ∀ q : Prio, q.toNat < p.toNat → s.countTx q = 0 := by
  rw [State.select?, head?_eq_some_iff_of_pairwise (waitingPrios_pairwise s)]
  simp only [mem_waitingPrios]
  constructor
  · rintro ⟨⟨hp, hcount⟩, hle⟩
    exact ⟨hp, hcount, fun q hq => Nat.eq_zero_of_not_pos fun hpos =>
      absurd (hle q ⟨hq.trans hp, hpos⟩) (Nat.not_le_of_lt hq)⟩
  · rintro ⟨hp, hcount, hnone⟩
    exact ⟨⟨hp, hcount⟩, fun q hq => Nat.le_of_not_lt fun hlt => absurd (hnone q hlt) hq.2.ne'⟩

theorem select?_eq_none_iff : s.select? = none ↔ ∀ q : Prio, q.toNat < s.params.nPrio → s.countTx q = 0 := by
  rw [State.select?, List.head?_eq_none_iff, List.eq_nil_iff_forall_not_mem]
  simp only [mem_waitingPrios, not_and, Nat.pos_iff_ne_zero, ne_eq, not_not]

theorem countTx_eq_zero_iff : s.countTx p = 0 ↔ (s.txp p).queue = [] := List.length_eq_zero_iff

theorem headTx?_of_queue (h : (s.txp p).queue = e :: rest) : s.headTx? p = some e := by rw [State.headTx?, h]; rfl

theorem select?_of_selected (h : Selected s p e rest) : s.select? = some p := by
  obtain ⟨hp, hqueue, hnone⟩ := h
  have hcount : 0 < s.countTx p := by simp [State.countTx, hqueue]
  exact select?_eq_some_iff.2 ⟨hp, hcount, fun q hq => countTx_eq_zero_iff.2 (hnone q hq)⟩

/-- FR_GNP with a packet selected (R206, R207). -/
theorem opGnp_of_selected (h : Selected s p e rest) :
    (e.cont = false ∧ opGnp s = .cont ((s.recordFresh p e).beginFrame p)) ∨
    (e.cont = true ∧ ((s.txp p).total = 0 ∨ s.params.capacity < fullLen (s.txp p) e) ∧
      opGnp s = .ret (s.raise .fatal) .none) ∨
    (e.cont = true ∧ (s.txp p).total ≠ 0 ∧ fullLen (s.txp p) e ≤ s.params.capacity ∧ opGnp s = .cont (s.beginFrame p)) := by
  obtain ⟨hnone, -⟩ | ⟨q, d, hq, hd, ho⟩ := opGnp_cases s
  · cases hnone.symm.trans (select?_of_selected h)
  · cases hq.symm.trans (select?_of_selected h)
    obtain ⟨-, hqueue, -⟩ := h
    cases hd.symm.trans (headTx?_of_queue hqueue)
    exact ho

end Selection

/-! ### Two writes of one transmit side -/

section Banks
variable {s : State} {p : Prio} {x : TxPrio} {e : TxEntry} {rest : List TxEntry}

theorem setTxp_setTxp (s : State) (p : Prio) (x y : TxPrio) : (s.setTxp p x).setTxp p y = s.setTxp p y := by
  simp only [State.setTxp, bankSet_bankSet]

theorem setTxp_setHeadTx {d : TxEntry} (h : x.queue = d :: rest) :
    (s.setTxp p x).setHeadTx p e = s.setTxp p { x with queue := e :: rest } := by
  rw [State.setHeadTx, setTxp_setTxp, State.setTxp_txp_self, h]

theorem setTxp_headTx? (h : x.queue = e :: rest) : (s.setTxp p x).headTx? p = some e :=
  headTx?_of_queue (by rw [State.setTxp_txp_self, h])

theorem popTx_of_queue (h : (s.txp p).queue = e :: rest) : s.popTx p = s.setTxp p { s.txp p with queue := rest } := by
  rw [State.popTx, h, List.tail_cons]

theorem setTxp_popTx (h : x.queue = e :: rest) : (s.setTxp p x).popTx p = s.setTxp p { x with queue := rest } := by
  rw [State.popTx, setTxp_setTxp, State.setTxp_txp_self, h, List.tail_cons]

/-- A fresh selection writes one transmit side (R206). -/
theorem recordFresh_eq (h : (s.txp p).queue = e :: rest) :
    s.recordFresh p e = s.setTxp p { s.txp p with
      total := BitVec.ofNat 16 (13 + e.len.toNat + 4), brk := 0
      queue := { e with csum := packetSum s.params p e.seq e.len e.init e.ack
                                  (s.contentBytes .tx p e.content 0 e.len.toNat) } :: rest } :=
  setTxp_setHeadTx (x := { s.txp p with total := BitVec.ofNat 16 (hdrLen + e.len.toNat + ftrLen), brk := 0 }) h

end Banks

/-! ### A write (R205, R208, R211) -/

section Writes
variable {s : State} {e : TxEntry}

theorem answer_eq_answerTo (s : State) (n : Nat) : s.answer n = answerTo s n := by
  unfold State.answer answerTo
  cases s.env.answers with
  | nil => simp
  | cons w ws => rfl

/-- A request of the first `n` bytes sends what is accepted of them. -/
theorem offer_take_eq_sent {n : Nat} {bs : List Byte} (hn : n ≤ bs.length) (f : Framer) :
    { s.offer (bs.take n) with tx := f } = sent s bs (s.answer n) f := by
  simp only [State.offer, sent, List.length_take, Nat.min_eq_left hn, List.take_take, Nat.min_eq_left (s.answer_le n)]

theorem headerChunk_le_header (s : State) : s.headerChunk ≤ 13 - s.tx.hdrPos.toNat := Nat.min_le_right _ _

theorem headerChunk_le_burst (s : State) : s.headerChunk ≤ s.ctl.maxBurst.toNat - s.tx.burst.toNat :=
  (Nat.min_le_left _ _).trans (Nat.min_le_left _ _)

theorem bodySize_le_wire (s : State) (e : TxEntry) :
    s.bodySize e ≤ (wire s.params (s.body s.tx.txCur e) s.tx.bpos s.tx.escPending).length := Nat.min_le_right _ _

theorem bodySize_le_burst (s : State) (e : TxEntry) : s.bodySize e ≤ s.ctl.maxBurst.toNat - s.tx.burst.toNat :=
  (Nat.min_le_left _ _).trans (Nat.min_le_left _ _)

/-- The bytes of the header not yet sent. -/
def State.headerLeft (s : State) (e : TxEntry) : List Byte :=
  (hdrBytes s.params s.tx.txCur e).drop s.tx.hdrPos.toNat

theorem headerLeft_length (s : State) (e : TxEntry) : (s.headerLeft e).length = 13 - s.tx.hdrPos.toNat := by
  simp [State.headerLeft, hdrBytes]

theorem headerWritten_eq_sent (s : State) (e : TxEntry) :
    s.headerWritten e = sent s (s.headerLeft e) (s.answer s.headerChunk)
      { s.tx with hdrPos := s.tx.hdrPos + BitVec.ofNat 4 (s.answer s.headerChunk)
                  burst := s.tx.burst + BitVec.ofNat 32 (s.answer s.headerChunk) } :=
  offer_take_eq_sent ((headerChunk_le_header s).trans_eq (headerLeft_length s e).symm) _

theorem bodySent_eq_sent (s : State) (e : TxEntry) :
    s.bodySent e = sent s (wire s.params (s.body s.tx.txCur e) s.tx.bpos s.tx.escPending) (s.answer (s.bodySize e))
      { s.tx with bpos := (s.bodyAt e).1, escPending := (s.bodyAt e).2
                  burst := s.tx.burst + BitVec.ofNat 32 (s.answer (s.bodySize e)) } :=
  offer_take_eq_sent (bodySize_le_wire s e) _

theorem bodySent_eq_bodyWritten (s : State) (e : TxEntry) : s.bodySent e = bodyWritten s e := by
  rw [bodySent_eq_sent, State.bodyAt, answer_eq_answerTo]
  rfl

/-- The burst counter does not wrap: a write stays within the burst. -/
theorem toNat_burst_add {m b : W32} {w : Nat} (hw : w ≤ m.toNat - b.toNat) :
    (b + BitVec.ofNat 32 w).toNat = b.toNat + w := by
  have := m.isLt
  rw [BitVec.toNat_add, BitVec.toNat_ofNat]
  omega

/-- The header position does not wrap. -/
theorem toNat_hdrPos_add {h : BitVec 4} {w : Nat} (hw : w ≤ 13 - h.toNat) : (h + BitVec.ofNat 4 w).toNat = h.toNat + w := by
  rw [BitVec.toNat_add, BitVec.toNat_ofNat]
  omega

theorem headerWritten_burst (s : State) (e : TxEntry) :
    (s.headerWritten e).tx.burst.toNat = s.tx.burst.toNat + s.answer s.headerChunk :=
  toNat_burst_add ((s.answer_le _).trans (headerChunk_le_burst s))

theorem bodySent_burst (s : State) (e : TxEntry) :
    (s.bodySent e).tx.burst.toNat = s.tx.burst.toNat + s.answer (s.bodySize e) :=
  toNat_burst_add ((s.answer_le _).trans (bodySize_le_burst s e))

/-- The test after a header write (R208), in numbers. -/
theorem headerWritten_ends_iff (s : State) (e : TxEntry) :
    ((s.headerWritten e).tx.hdrPos = 13#4 ∨ s.ctl.maxBurst ≤ (s.headerWritten e).tx.burst) ↔
      (s.tx.hdrPos.toNat + s.answer s.headerChunk = 13 ∨
        s.ctl.maxBurst.toNat ≤ s.tx.burst.toNat + s.answer s.headerChunk) := by
  have hpos : (s.headerWritten e).tx.hdrPos.toNat = s.tx.hdrPos.toNat + s.answer s.headerChunk :=
    toNat_hdrPos_add ((s.answer_le _).trans (headerChunk_le_header s))
  rw [BitVec.le_def, headerWritten_burst, ← hpos, ← BitVec.toNat_inj]
  rfl

/-- The test of the burst after a body write (R211), in numbers. -/
theorem bodySent_burst_iff (s : State) (e : TxEntry) :
    s.ctl.maxBurst ≤ (s.bodySent e).tx.burst ↔
      s.ctl.maxBurst.toNat ≤ s.tx.burst.toNat + s.answer (s.bodySize e) := by
  rw [BitVec.le_def, bodySent_burst]

end Writes

/-! ### The wire stream under `Advance` (R204) -/

section Position
variable {S : Byte} {P : Params} {body : List Byte} {b : W16} {esc : Bool} {w : Nat}

theorem withinBody_or_end_iff : WithinBody S body b esc ∨ AtBodyEnd body b esc ↔
    b.toNat ≤ body.length ∧ (esc = true → body[b.toNat]? = some S) := by
  constructor
  · rintro (⟨hlt, hesc⟩ | ⟨hend, rfl⟩)
    · exact ⟨Nat.le_of_lt hlt, hesc⟩
    · exact ⟨hend.le, nofun⟩
  · rintro ⟨hle, hesc⟩
    obtain hlt | hend := Nat.lt_or_eq_of_le hle
    · exact .inl ⟨hlt, hesc⟩
    · refine .inr ⟨hend, Bool.eq_false_iff.2 fun h => ?_⟩
      simpa [hend] using hesc h

/-- The stream is empty exactly at the end of the body. -/
theorem wire_eq_nil_iff (h : WithinBody S body b esc ∨ AtBodyEnd body b esc) :
    wire P body b esc = [] ↔ AtBodyEnd body b esc := by
  refine ⟨fun hnil => h.resolve_left fun ⟨hlt, _⟩ => ?_, wire_atBodyEnd⟩
  have := wire_length_pos (P := P) (esc := esc) hlt
  simp [hnil] at this

/-- One step of `Advance` takes the first byte off the stream. -/
theorem wire_eq_cons_advance (hlen : body.length < 2 ^ 16) (h : WithinBody P.startTok body b esc) :
    ∃ c, wire P body b esc =
      c :: wire P body (advance P.startTok body 1 b esc).1 (advance P.startTok body 1 b esc).2 := by
  obtain ⟨hlt, hesc⟩ := h
  have hb : (b + 1).toNat = b.toNat + 1 := BitVec.toNat_add_of_lt (Nat.lt_of_le_of_lt hlt hlen)
  cases esc with
  | true => exact ⟨_, wire_escape hb⟩
  | false =>
    by_cases hS : body[b.toNat]? = some P.startTok
    · exact ⟨_, by simpa [advance, hS] using wire_start hS⟩
    · exact ⟨_, by simpa [advance, hS] using wire_other hlt hS hb⟩

theorem wire_advance (hlen : body.length < 2 ^ 16) : ∀ (w : Nat) (b : W16) (esc : Bool),
    WithinBody P.startTok body b esc ∨ AtBodyEnd body b esc → w ≤ (wire P body b esc).length →
    wire P body (advance P.startTok body w b esc).1 (advance P.startTok body w b esc).2 = (wire P body b esc).drop w
  | 0, _, _, _, _ => rfl
  | w + 1, b, esc, hpos, hw => by
    have hin : WithinBody P.startTok body b esc :=
      hpos.resolve_right fun hend => by simp [wire_atBodyEnd hend] at hw
    obtain ⟨c, hc⟩ := wire_eq_cons_advance hlen hin
    have hstep := advance_withinBody_or_end hlen 1 b esc hpos (Nat.le_trans (Nat.le_add_left 1 w) hw)
    rw [hc] at hw
    rw [hc, List.drop_succ_cons, Nat.add_comm, advance_add]
    exact wire_advance hlen w _ _ hstep (Nat.le_of_succ_le_succ hw)

/-- An escape token is owed only on a start token, for bodies of any length. -/
theorem advance_escPending : ∀ (w : Nat) (b : W16) (esc : Bool), (esc = true → body[b.toNat]? = some S) →
    (advance S body w b esc).2 = true → body[(advance S body w b esc).1.toNat]? = some S
  | 0, _, _, h => h
  | w + 1, b, esc, _ => by
    rw [advance]
    split
    · exact advance_escPending w _ _ nofun
    · split
      · next hS => exact advance_escPending w _ _ fun _ => hS
      · exact advance_escPending w _ _ nofun

/-- The position stays in the body; where the body is too long for `bpos` to reach its end, every position is in it. -/
theorem advance_position (hpos : b.toNat ≤ body.length) (hesc : esc = true → body[b.toNat]? = some P.startTok)
    (hw : w ≤ (wire P body b esc).length) :
    (advance P.startTok body w b esc).1.toNat ≤ body.length ∧
      ((advance P.startTok body w b esc).2 = true →
        body[(advance P.startTok body w b esc).1.toNat]? = some P.startTok) := by
  by_cases hlen : body.length < 2 ^ 16
  · exact withinBody_or_end_iff.1 (advance_withinBody_or_end hlen w b esc (withinBody_or_end_iff.2 ⟨hpos, hesc⟩) hw)
  · exact ⟨(Nat.le_of_lt (BitVec.isLt _)).trans (Nat.le_of_not_lt hlen), advance_escPending w b esc hesc⟩

end Position

/-! ### What holds where a tick goes on and where it ends (R200) -/

/-- The tick goes on in a state of `I`, or ends in one of `Q`. -/
def TickRes.Leads (I Q : State → Prop) : TickRes → Prop
  | .cont s => I s
  | .ret s h => Q { s with env := { s.env with hint := h } }
  | .fault _ => True

/-- The induction over a tick whose states on the way differ from those it ends in. -/
theorem finishTick_leads {I Q : State → Prop} (hop : ∀ s, I s → (opOf s).Leads I Q) {t : State} :
    ∀ (k : Nat) (r : TickRes), r.Leads I Q → finishTick k r = .next t → Q t
  | k, .ret s h, hr, ht => by
    rw [finishTick_ret] at ht
    cases ht
    exact hr
  | k, .fault f, _, ht => by simp at ht
  | 0, .cont s, _, ht => by simp at ht
  | k + 1, .cont s, hr, ht => finishTick_leads hop k (opOf s) (hop s hr) ht

/-! ### A tick completes (R200, R225) -/

/-- What a tick that goes on needs to complete: part of what holds of every sound block. -/
structure Ready (s : State) : Prop where
  caps   : CapsLegal s
  fstate : s.tx.fstate ≠ .reserved7
  head   : s.tx.sending → ∃ e, s.headTx? s.tx.txCur = some e
  header : s.tx.fstate = .sendingHeaderBurst → s.tx.hdrPos.toNat < 13
  body   : s.tx.sendingBody → ∀ e, s.headTx? s.tx.txCur = some e → BodyPosition s e

section Ready
variable {s t : State} {e : TxEntry} {i j : Instr} {n : Nat}

/-- The framer sends nothing. -/
theorem Ready.of_gettingNextPacket (hc : CapsLegal s) (hst : s.tx.fstate = .gettingNextPacket) : Ready s where
  caps := hc
  fstate := by simp [hst]
  head := fun h => by simp [Framer.sending, hst] at h
  header := fun h => by simp [hst] at h
  body := fun h => by simp [Framer.sendingBody, hst] at h

theorem Ready.of_sendingHeaderBurst (hc : CapsLegal s) (hst : s.tx.fstate = .sendingHeaderBurst)
    (he : s.headTx? s.tx.txCur = some e) (hpos : s.tx.hdrPos.toNat < 13) : Ready s where
  caps := hc
  fstate := by simp [hst]
  head := fun _ => ⟨e, he⟩
  header := fun _ => hpos
  body := fun h => by simp [Framer.sendingBody, hst] at h

theorem Ready.beginFrame {p : Prio} (hc : CapsLegal s) (he : s.headTx? p = some e) : Ready (s.beginFrame p) :=
  .of_sendingHeaderBurst hc rfl he (by decide : (0#4).toNat < 13)

theorem Ready.of_sendingBurst (hc : CapsLegal s) (hst : s.tx.fstate = .sendingBurst)
    (he : s.headTx? s.tx.txCur = some e) (hpos : BodyPosition s e) : Ready s where
  caps := hc
  fstate := by simp [hst]
  head := fun _ => ⟨e, he⟩
  header := fun h => by simp [hst] at h
  body := fun _ d hd => by cases hd.symm.trans he; exact hpos

theorem recordFresh_headTx? {p : Prio} {d : TxEntry} (h : s.headTx? p = some d) :
    ∃ c, (s.recordFresh p e).headTx? p = some c :=
  ⟨_, State.setHeadTx_headTx? _ p _ d (by simpa only [State.headTx?, State.setTxp_txp_self] using h)⟩

/-- A header write that does not end the burst leaves header bytes to send. -/
theorem headerWritten_hdrPos_lt (hpos : s.tx.hdrPos.toNat < 13) (hne : (s.headerWritten e).tx.hdrPos ≠ 13#4) :
    (s.headerWritten e).tx.hdrPos.toNat < 13 :=
  Nat.lt_of_le_of_ne (headerWritten_hdrPos_le e (Nat.le_of_lt hpos)) fun heq => hne (BitVec.eq_of_toNat_eq heq)

theorem bodyPosition_bodySent (h : BodyPosition s e) : BodyPosition (s.bodySent e) e :=
  advance_position h.1 h.2 ((s.answer_le _).trans (bodySize_le_wire s e))

theorem opGnp_leads_ready (h : Ready s) : (opGnp s).Leads Ready fun _ => True := by
  obtain ⟨-, ho⟩ | ⟨p, e, -, he, ⟨-, ho⟩ | ⟨-, -, ho⟩ | ⟨-, -, -, ho⟩⟩ := opGnp_cases s <;> rw [ho]
  · trivial
  · obtain ⟨c, hc⟩ := recordFresh_headTx? (e := e) he
    exact .beginFrame h.caps hc
  · trivial
  · exact .beginFrame h.caps he

theorem opShb_leads_ready (h : Ready s) (hst : s.tx.fstate = .sendingHeaderBurst) :
    (opShb s).Leads Ready fun _ => True := by
  obtain ⟨-, ho⟩ | ⟨-, -, ho⟩ | ⟨e, -, he, ⟨-, ho⟩ | ⟨hgo, ⟨-, ho⟩ | ⟨-, ho⟩⟩⟩ := opShb_cases s <;> rw [ho]
  case inr.inr.inr.inr =>
    exact .of_sendingHeaderBurst h.caps hst he (headerWritten_hdrPos_lt (h.header hst) fun heq => hgo (.inl heq))
  all_goals trivial

theorem opWhbi_leads_ready (h : Ready s) (hst : s.tx.fstate = .waitingForHeaderBurstIngestion) :
    (opWhbi s).Leads Ready fun _ => True := by
  obtain ⟨e, he⟩ := h.head (.inr (.inl hst))
  obtain ⟨-, ho⟩ | ⟨-, hlt, ho⟩ | ⟨-, -, ho⟩ := opWhbi_cases s <;> rw [ho]
  · trivial
  · exact .of_sendingHeaderBurst h.caps rfl he hlt
  · exact .of_sendingBurst h.caps rfl he ⟨Nat.zero_le _, nofun⟩

theorem opSb_leads_ready (h : Ready s) (hst : s.tx.fstate = .sendingBurst) : (opSb s).Leads Ready fun _ => True := by
  obtain ⟨-, ho⟩ | ⟨-, -, ho⟩ | ⟨e, -, he, ⟨-, ho⟩ | ⟨-, ⟨-, ho⟩ | ⟨-, ⟨-, ho⟩ | ⟨-, ⟨-, ho⟩ | ⟨-, ho⟩⟩⟩⟩⟩ :=
    opSb_cases s <;> rw [ho]
  case inr.inr.inr.inr.inr.inr =>
    exact .of_sendingBurst h.caps hst he (bodyPosition_bodySent (h.body (.inl hst) e he))
  all_goals trivial

theorem opWbi_leads_ready (h : Ready s) (hst : s.tx.fstate = .waitingForBurstIngestion) :
    (opWbi s).Leads Ready fun _ => True := by
  obtain ⟨-, ho⟩ | ⟨-, -, ho⟩ | ⟨-, hdone, ho⟩ := opWbi_cases s <;> rw [ho]
  · trivial
  · exact .of_gettingNextPacket h.caps rfl
  · obtain ⟨e, he⟩ := h.head (.inr (.inr (.inr ⟨hst, hdone⟩)))
    exact .of_sendingBurst h.caps rfl he (h.body (.inr ⟨hst, hdone⟩) e he)

theorem opWpbi_leads_ready (h : Ready s) : (opWpbi s).Leads Ready fun _ => True := by
  obtain ⟨-, ho⟩ | ⟨-, ho⟩ := opWpbi_cases s <;> rw [ho]
  · trivial
  · exact .of_gettingNextPacket h.caps rfl

/-- Every operation from which a tick goes on leaves what the rest of the tick needs. -/
theorem opOf_leads_ready (h : Ready s) : (opOf s).Leads Ready fun _ => True := by
  unfold opOf
  split
  · exact opGnp_leads_ready h
  · next hst => exact opShb_leads_ready h hst
  · next hst => exact opWhbi_leads_ready h hst
  · next hst => exact opSb_leads_ready h hst
  · next hst => exact opWbi_leads_ready h hst
  · exact opWpbi_leads_ready h
  · trivial
  · trivial

theorem maxAtomic_pos_of_capsLegal (h : CapsLegal s) : 0 < s.ctl.maxAtomic.toNat :=
  Nat.pos_of_ne_zero fun hz => h.2 (BitVec.eq_of_toNat_eq hz)

theorem answer_zero (s : State) : s.answer 0 = 0 := Nat.le_zero.1 (s.answer_le 0)

/-- A body write of no byte does not move. -/
theorem bodyAt_of_bodySize_eq_zero (h : s.bodySize e = 0) : s.bodyAt e = (s.tx.bpos, s.tx.escPending) := by
  rw [State.bodyAt, h, answer_zero, advance_zero]

theorem bodyAt_of_atBodyEnd (h : AtBodyEnd (s.body s.tx.txCur e) s.tx.bpos s.tx.escPending) :
    AtBodyEnd (s.body s.tx.txCur e) (s.bodyAt e).1 (s.bodyAt e).2 := by
  have hsize : s.bodySize e = 0 :=
    Nat.le_zero.1 ((bodySize_le_wire s e).trans_eq (List.length_eq_zero_iff.2 (wire_atBodyEnd h)))
  rw [bodyAt_of_bodySize_eq_zero hsize]
  exact h

theorem opShb_endsWithin_of_ready (h : Ready s) (hst : s.tx.fstate = .sendingHeaderBurst) (hn : s.tickMeasure ≤ n) :
    (opShb s).EndsWithin n := by
  have hle : s.env.answers.length ≤ n := by simpa [State.tickMeasure, hst, FState.writeDistance] using hn
  obtain ⟨d, hd⟩ := h.head (.inl hst)
  obtain ⟨-, ho⟩ | ⟨-, hnone, ho⟩ | ⟨e, hburst, -, ⟨-, ho⟩ | ⟨-, ⟨-, ho⟩ | ⟨hw, ho⟩⟩⟩ := opShb_cases s <;> rw [ho]
  case inr.inl => cases hd.symm.trans hnone
  case inr.inr.inr.inr =>
    have hpos : 0 < s.headerChunk := by
      simp only [State.headerChunk, lt_min_iff]
      exact ⟨⟨burstLeft_pos hburst, maxAtomic_pos_of_capsLegal h.caps⟩, Nat.sub_pos_of_lt (h.header hst)⟩
    have hlt : (s.headerWritten e).tickMeasure < s.env.answers.length := by
      simpa [State.tickMeasure, State.headerWritten, State.offer, hst, FState.writeDistance]
        using answers_tail_length_lt hpos hw
    exact hlt.trans_le hle
  all_goals trivial

theorem opSb_endsWithin_of_ready (h : Ready s) (hst : s.tx.fstate = .sendingBurst) (hn : s.tickMeasure ≤ n) :
    (opSb s).EndsWithin n := by
  have hle : s.env.answers.length ≤ n := by simpa [State.tickMeasure, hst, FState.writeDistance] using hn
  obtain ⟨d, hd⟩ := h.head (.inr (.inr (.inl hst)))
  obtain ⟨-, ho⟩ | ⟨-, hnone, ho⟩ | ⟨e, hburst, he, ⟨-, ho⟩ | ⟨hgo, ⟨-, ho⟩ | ⟨-, ⟨-, ho⟩ | ⟨-, ⟨-, ho⟩ | ⟨hw, ho⟩⟩⟩⟩⟩ :=
    opSb_cases s <;> rw [ho]
  case inr.inl => cases hd.symm.trans hnone
  case inr.inr.inr.inr.inr.inr =>
    have hpos : 0 < s.bodySize e := by
      have hin := (withinBody_or_end_iff.2 (h.body (.inl hst) e he)).resolve_right fun hend => hgo (bodyAt_of_atBodyEnd hend)
      simp only [State.bodySize, State.bodyChunk, lt_min_iff]
      exact ⟨⟨burstLeft_pos hburst, maxAtomic_pos_of_capsLegal h.caps⟩, wire_length_pos hin.1⟩
    have hlt : (s.bodySent e).tickMeasure < s.env.answers.length := by
      simpa [State.tickMeasure, State.bodySent, State.offer, hst, FState.writeDistance]
        using answers_tail_length_lt hpos hw
    exact hlt.trans_le hle
  all_goals trivial

/-- Each repetition is nearer to the end of the tick. -/
theorem opOf_endsWithin_of_ready (h : Ready s) (hn : s.tickMeasure ≤ n) : (opOf s).EndsWithin n := by
  unfold opOf
  split
  · next hst => exact opGnp_endsWithin hst hn
  · next hst => exact opShb_endsWithin_of_ready h hst hn
  · next hst => exact opWhbi_endsWithin hst hn
  · next hst => exact opSb_endsWithin_of_ready h hst hn
  · next hst => exact opWbi_endsWithin hst hn
  · next hst => exact opWpbi_endsWithin hst hn
  · trivial
  · next hst => exact absurd hst h.fstate

theorem finishTick_next_of_ready : ∀ (k : Nat) (r : TickRes), (r.Leads Ready fun _ => True) → r.EndsWithin k →
    ∃ u, finishTick k r = .next u
  | k, .ret s hint, _, _ => ⟨_, finishTick_ret k s hint⟩
  | k + 1, .cont _, hs, hr =>
    finishTick_next_of_ready k _ (opOf_leads_ready hs) (opOf_endsWithin_of_ready hs (Nat.le_of_lt_succ hr))

/-- An operation that goes on in `t` and a tick that starts in `t` come to the same end: the fuel of either is enough. -/
theorem continuesWith_of_cont {r : TickRes} (hr : r = .cont t) (hexec : exec i s = finishTick s.tickBound r)
    (hj : t.tx.fstate.row = j) (ht : Ready t) (hans : t.env.answers.length ≤ s.env.answers.length) :
    ContinuesWith i s j t := by
  obtain ⟨u, hu⟩ := finishTick_next_of_ready _ _ (opOf_leads_ready ht) (opOf_endsWithin_of_ready ht (Nat.le_refl _))
  have hfuel : t.tickMeasure ≤ s.env.answers.length + 3 := by
    have hdist : t.tx.fstate.writeDistance ≤ 3 := by cases t.tx.fstate <;> decide
    exact Nat.add_le_add hans hdist
  refine ⟨u, ?first, ?rest⟩
  case first =>
    rw [Gives, hexec, hr, State.tickBound, finishTick_cont_succ]
    exact finishTick_mono _ _ _ hu hfuel
  case rest =>
    rw [Gives, ← hj, exec_row]
    exact finishTick_mono _ _ _ hu t.tickMeasure_le_tickBound

end Ready

/-! ### What one tick sends (R222, R225) -/

/-- A tick that began in `s` has come to an end with the interfaces `v` within the bounds of R222 and R225. -/
def WithinTick (s : State) (v : Env) : Prop :=
  (∃ bs : List Byte, v.linkOut = s.env.linkOut ++ bs ∧ bs.length ≤ s.ctl.maxBurst.toNat) ∧
    s.env.answers.length ≤ v.answers.length + s.ctl.maxBurst.toNat + 1

/-- Nothing has been sent between `s` and `u`. -/
structure SentNothing (s u : State) : Prop where
  maxBurst : u.ctl.maxBurst = s.ctl.maxBurst
  linkOut  : u.env.linkOut = s.env.linkOut
  answers  : u.env.answers = s.env.answers

/-- The bytes sent between `s` and `u` fit a burst and are counted in that of `u`, and no more answers are used up than bytes are
sent. -/
structure SentCounted (s u : State) : Prop where
  maxBurst : u.ctl.maxBurst = s.ctl.maxBurst
  bytes    : ∃ bs : List Byte, u.env.linkOut = s.env.linkOut ++ bs ∧ bs.length ≤ u.tx.burst.toNat ∧
    bs.length ≤ s.ctl.maxBurst.toNat ∧ s.env.answers.length ≤ u.env.answers.length + bs.length

/-- The state with other answers still to come. -/
def State.withAnswers (s : State) (ws : List Nat) : State := { s with env := { s.env with answers := ws } }

/-- Whatever the transport answers, the tick goes on and nothing else happens. -/
def Stalled (s : State) : Prop := ∀ ws, opOf (s.withAnswers ws) = .cont (s.withAnswers ws.tail)

/-- Where a tick that began in `s` can stand when it goes on: it repeats a request of no byte, which cannot end, or it has sent
nothing yet, or it is within one burst. -/
def OnTheWay (s u : State) : Prop :=
  Stalled u ∨ SentNothing s u ∨
    ((u.tx.fstate = .sendingHeaderBurst ∨ u.tx.fstate = .sendingBurst) ∧ SentCounted s u)

section Bound
variable {s t u : State} {e : TxEntry} {r : TickRes}

theorem SentNothing.refl (s : State) : SentNothing s s := ⟨rfl, rfl, rfl⟩

theorem SentNothing.trans (h : SentNothing s t) (k : SentNothing t u) : SentNothing s u :=
  ⟨k.maxBurst.trans h.maxBurst, k.linkOut.trans h.linkOut, k.answers.trans h.answers⟩

theorem SentNothing.counted (h : SentNothing s u) : SentCounted s u :=
  ⟨h.maxBurst, [], by simp [h.linkOut], Nat.zero_le _, Nat.zero_le _, by simp [h.answers]⟩

theorem SentNothing.withinTick (h : SentNothing s u) : WithinTick s u.env :=
  ⟨⟨[], by simp [h.linkOut], Nat.zero_le _⟩, by rw [h.answers]; omega⟩

theorem SentNothing.leads (h : SentNothing s u) (hr : r.All (SentNothing u)) :
    r.Leads (OnTheWay s) fun v => WithinTick s v.env := by
  cases r with
  | cont v => exact .inr (.inl (h.trans hr))
  | ret v hint => exact (h.trans hr).withinTick
  | fault f => trivial

theorem opGnp_sentNothing (s : State) : (opGnp s).All (SentNothing s) := by
  obtain ⟨-, ho⟩ | ⟨p, e, -, -, ⟨-, ho⟩ | ⟨-, -, ho⟩ | ⟨-, -, -, ho⟩⟩ := opGnp_cases s <;> rw [ho] <;> exact ⟨rfl, rfl, rfl⟩

theorem opWhbi_sentNothing (s : State) : (opWhbi s).All (SentNothing s) := by
  obtain ⟨-, ho⟩ | ⟨-, -, ho⟩ | ⟨-, -, ho⟩ := opWhbi_cases s <;> rw [ho] <;> exact ⟨rfl, rfl, rfl⟩

theorem opWbi_sentNothing (s : State) : (opWbi s).All (SentNothing s) := by
  obtain ⟨-, ho⟩ | ⟨-, -, ho⟩ | ⟨-, -, ho⟩ := opWbi_cases s <;> rw [ho] <;> exact ⟨rfl, rfl, rfl⟩

theorem opWpbi_sentNothing (s : State) : (opWpbi s).All (SentNothing s) := by
  obtain ⟨-, ho⟩ | ⟨-, ho⟩ := opWpbi_cases s <;> rw [ho] <;> exact ⟨rfl, rfl, rfl⟩

theorem SentCounted.withinTick (h : SentCounted s u) : WithinTick s u.env := by
  obtain ⟨-, out, hout, -, hlen, hans⟩ := h
  exact ⟨⟨out, hout, hlen⟩, by omega⟩

/-- The bytes of one more write still fit the burst, and the answer to it may be the one beyond the bytes sent. -/
theorem SentCounted.withinTick_sent (h : SentCounted s u) (hburst : ¬ u.ctl.maxBurst ≤ u.tx.burst) {bs : List Byte} {w : Nat}
    (hw : w ≤ u.ctl.maxBurst.toNat - u.tx.burst.toNat) (f : Framer) : WithinTick s (sent u bs w f).env := by
  obtain ⟨hmax, out, hout, hlen, -, hans⟩ := h
  have hlt := BitVec.lt_def.1 (BitVec.not_le.1 hburst)
  rw [hmax] at hlt hw
  refine ⟨⟨out ++ bs.take w, by simp [sent, hout], ?bytes⟩, ?answers⟩
  case bytes => simp only [List.length_append, List.length_take]; omega
  case answers => simp only [sent, List.length_tail]; omega

/-- A write of some bytes: the burst counts them, and they make up for the answer. -/
theorem SentCounted.sent (h : SentCounted s u) (hburst : ¬ u.ctl.maxBurst ≤ u.tx.burst) {bs : List Byte} {w : Nat}
    (hw : w ≤ u.ctl.maxBurst.toNat - u.tx.burst.toNat) (hpos : 0 < w) (hbs : w ≤ bs.length) {f : Framer}
    (hf : f.burst.toNat = u.tx.burst.toNat + w) : SentCounted s (sent u bs w f) := by
  obtain ⟨hmax, out, hout, hlen, -, hans⟩ := h
  have hlt := BitVec.lt_def.1 (BitVec.not_le.1 hburst)
  rw [hmax] at hlt hw
  refine ⟨hmax, out ++ bs.take w, by simp [Claims.sent, hout], ?burst, ?bytes, ?answers⟩
  all_goals simp only [Claims.sent, List.length_append, List.length_take, List.length_tail]; omega

/-! ### A request of no byte -/

/-- A write of no byte uses up an answer and does nothing else. -/
theorem headerWritten_of_headerChunk_eq_zero (h : s.headerChunk = 0) (e : TxEntry) :
    s.headerWritten e = s.withAnswers s.env.answers.tail := by
  simp [headerWritten_eq_sent, h, answer_zero, sent, State.withAnswers]

theorem bodySent_of_bodySize_eq_zero (h : s.bodySize e = 0) : s.bodySent e = s.withAnswers s.env.answers.tail := by
  simp [bodySent_eq_sent, bodyAt_of_bodySize_eq_zero h, h, answer_zero, sent, State.withAnswers]

theorem opShb_of_headerChunk_eq_zero (hburst : ¬ s.ctl.maxBurst ≤ s.tx.burst) (he : s.headTx? s.tx.txCur = some e)
    (hn : s.headerChunk = 0) (hpos : s.tx.hdrPos ≠ 13#4) : opShb s = .cont (s.withAnswers s.env.answers.tail) := by
  obtain ⟨hle, -⟩ | ⟨-, hnone, -⟩ | ⟨d, -, -, ho⟩ := opShb_cases s
  · exact absurd hle hburst
  · cases he.symm.trans hnone
  rw [headerWritten_of_headerChunk_eq_zero hn] at ho
  obtain ⟨heq | hle, -⟩ | ⟨-, ⟨hlt, -⟩ | ⟨-, ho⟩⟩ := ho
  · exact absurd heq hpos
  · exact absurd hle hburst
  · rw [hn] at hlt; exact absurd hlt (Nat.not_lt_zero _)
  · exact ho

theorem opSb_of_bodySize_eq_zero (hburst : ¬ s.ctl.maxBurst ≤ s.tx.burst) (he : s.headTx? s.tx.txCur = some e)
    (hn : s.bodySize e = 0) (hend : ¬ AtBodyEnd (s.body s.tx.txCur e) s.tx.bpos s.tx.escPending)
    (hpre : ¬ (s.tx.escPending = false ∧ s.higherWaiting = true)) :
    opSb s = .cont (s.withAnswers s.env.answers.tail) := by
  obtain ⟨hle, -⟩ | ⟨-, hnone, -⟩ | ⟨d, -, hd, ho⟩ := opSb_cases s
  · exact absurd hle hburst
  · cases he.symm.trans hnone
  cases hd.symm.trans he
  rw [bodySent_of_bodySize_eq_zero hn, bodyAt_of_bodySize_eq_zero hn] at ho
  obtain ⟨hat, -⟩ | ⟨-, ⟨hhigh, -⟩ | ⟨-, ⟨hle, -⟩ | ⟨-, ⟨hlt, -⟩ | ⟨-, ho⟩⟩⟩⟩ := ho
  · exact absurd hat hend
  · exact absurd hhigh hpre
  · exact absurd hle hburst
  · rw [hn] at hlt; exact absurd hlt (Nat.not_lt_zero _)
  · exact ho

theorem stalled_of_headerChunk_eq_zero (hst : s.tx.fstate = .sendingHeaderBurst) (hburst : ¬ s.ctl.maxBurst ≤ s.tx.burst)
    (he : s.headTx? s.tx.txCur = some e) (hn : s.headerChunk = 0) (hpos : s.tx.hdrPos ≠ 13#4) : Stalled s := fun ws => by
  have hop : opOf (s.withAnswers ws) = opShb (s.withAnswers ws) := by simp [opOf, State.withAnswers, hst]
  exact hop.trans (opShb_of_headerChunk_eq_zero (s := s.withAnswers ws) hburst he hn hpos)

theorem stalled_of_bodySize_eq_zero (hst : s.tx.fstate = .sendingBurst) (hburst : ¬ s.ctl.maxBurst ≤ s.tx.burst)
    (he : s.headTx? s.tx.txCur = some e) (hn : s.bodySize e = 0)
    (hend : ¬ AtBodyEnd (s.body s.tx.txCur e) s.tx.bpos s.tx.escPending)
    (hpre : ¬ (s.tx.escPending = false ∧ s.higherWaiting = true)) : Stalled s := fun ws => by
  have hop : opOf (s.withAnswers ws) = opSb (s.withAnswers ws) := by simp [opOf, State.withAnswers, hst]
  exact hop.trans (opSb_of_bodySize_eq_zero (s := s.withAnswers ws) hburst he hn hend hpre)

theorem Stalled.withAnswers (h : Stalled s) (ws : List Nat) : Stalled (s.withAnswers ws) := fun vs => h vs

theorem Stalled.leads (h : Stalled u) : (opOf u).Leads (OnTheWay s) fun v => WithinTick s v.env := by
  have hop : opOf u = .cont (u.withAnswers u.env.answers.tail) := h u.env.answers
  rw [hop]
  exact .inl (h.withAnswers _)

/-! ### The write operations and the tick -/

theorem WithinTick.enterWait (h : WithinTick s u.env) (next : FState) (final : Bool) :
    (u.enterWait next final).Leads (OnTheWay s) fun v => WithinTick s v.env := h

theorem opShb_leads_withinTick (h : SentCounted s u) (hst : u.tx.fstate = .sendingHeaderBurst) :
    (opShb u).Leads (OnTheWay s) fun v => WithinTick s v.env := by
  have hw := (u.answer_le _).trans (headerChunk_le_burst u)
  obtain ⟨-, ho⟩ | ⟨-, -, ho⟩ | ⟨e, hburst, he, hcases⟩ := opShb_cases u
  · rw [ho]; exact h.withinTick
  · rw [ho]; trivial
  have hsent : WithinTick s (u.headerWritten e).env := by
    rw [headerWritten_eq_sent]; exact h.withinTick_sent hburst hw _
  obtain ⟨-, ho⟩ | ⟨hgo, ⟨-, ho⟩ | ⟨hfull, ho⟩⟩ := hcases <;> rw [ho]
  · exact hsent
  · exact hsent
  obtain hn | hn := Nat.eq_zero_or_pos u.headerChunk
  · rw [headerWritten_of_headerChunk_eq_zero hn] at hgo ⊢
    exact .inl ((stalled_of_headerChunk_eq_zero hst hburst he hn fun heq => hgo (.inl heq)).withAnswers _)
  · have hbs : u.answer u.headerChunk ≤ (u.headerLeft e).length := by
      rw [headerLeft_length]; exact (u.answer_le _).trans (headerChunk_le_header u)
    have hcount := headerWritten_burst u e
    rw [headerWritten_eq_sent] at hcount ⊢
    exact .inr (.inr ⟨.inl hst, h.sent hburst hw (hn.trans_eq hfull.symm) hbs hcount⟩)

theorem opSb_leads_withinTick (h : SentCounted s u) (hst : u.tx.fstate = .sendingBurst) :
    (opSb u).Leads (OnTheWay s) fun v => WithinTick s v.env := by
  obtain ⟨-, ho⟩ | ⟨-, -, ho⟩ | ⟨e, hburst, he, hcases⟩ := opSb_cases u
  · rw [ho]; exact h.withinTick
  · rw [ho]; trivial
  have hw := (u.answer_le _).trans (bodySize_le_burst u e)
  have hsent : WithinTick s (u.bodySent e).env := by
    rw [bodySent_eq_sent]; exact h.withinTick_sent hburst hw _
  obtain ⟨-, ho⟩ | ⟨hend, ⟨-, ho⟩ | ⟨hpre, ⟨-, ho⟩ | ⟨-, ⟨-, ho⟩ | ⟨hfull, ho⟩⟩⟩⟩ := hcases <;> rw [ho]
  · exact WithinTick.enterWait (by rwa [State.complete_env]) _ _
  · exact WithinTick.enterWait (by rwa [State.preempt_env]) _ _
  · exact hsent
  · exact hsent
  obtain hn | hn := Nat.eq_zero_or_pos (u.bodySize e)
  · rw [bodyAt_of_bodySize_eq_zero hn] at hend hpre
    rw [bodySent_of_bodySize_eq_zero hn] at hpre ⊢
    exact .inl ((stalled_of_bodySize_eq_zero hst hburst he hn hend hpre).withAnswers _)
  · have hcount := bodySent_burst u e
    rw [bodySent_eq_sent] at hcount ⊢
    have hbs := (u.answer_le _).trans (bodySize_le_wire u e)
    exact .inr (.inr ⟨.inr hst, h.sent hburst hw (hn.trans_eq hfull.symm) hbs hcount⟩)

theorem opOf_leads_withinTick (h : OnTheWay s u) : (opOf u).Leads (OnTheWay s) fun v => WithinTick s v.env := by
  obtain h | h | ⟨hst | hst, h⟩ := h
  · exact h.leads
  · unfold opOf
    split
    · exact h.leads (opGnp_sentNothing u)
    · next hst => exact opShb_leads_withinTick h.counted hst
    · exact h.leads (opWhbi_sentNothing u)
    · next hst => exact opSb_leads_withinTick h.counted hst
    · exact h.leads (opWbi_sentNothing u)
    · exact h.leads (opWpbi_sentNothing u)
    · exact h.withinTick
    · trivial
  · simpa only [opOf, hst] using opShb_leads_withinTick h hst
  · simpa only [opOf, hst] using opSb_leads_withinTick h hst

theorem finishTick_withinTick {k : Nat} (h : finishTick k (opOf s) = .next t) : WithinTick s t.env :=
  finishTick_leads (Q := fun v => WithinTick s v.env) (fun _ => opOf_leads_withinTick) k _
    (opOf_leads_withinTick (.inr (.inl (.refl s)))) h

end Bound

/-! ### A header is not interrupted (R221) -/

/-- No TX FIFO and not the packet under way differ between `s` and `u`. -/
def SamePacket (s u : State) : Prop := u.txPrio = s.txPrio ∧ u.tx.txCur = s.tx.txCur

section Header
variable {s u : State}

/-- Header writes go on with the header, and end a tick in it or in its wait. -/
theorem opShb_leads_samePacket (h : SamePacket s u) (hst : u.tx.fstate = .sendingHeaderBurst) :
    (opShb u).Leads (fun v => SamePacket s v ∧ v.tx.fstate = .sendingHeaderBurst) fun v => SamePacket s v ∧
      (v.tx.fstate = .sendingHeaderBurst ∨ v.tx.fstate = .waitingForHeaderBurstIngestion) := by
  obtain ⟨-, ho⟩ | ⟨-, -, ho⟩ | ⟨e, -, -, ⟨-, ho⟩ | ⟨-, ⟨-, ho⟩ | ⟨-, ho⟩⟩⟩ := opShb_cases u <;> rw [ho]
  · exact ⟨h, .inr rfl⟩
  · trivial
  · exact ⟨h, .inr rfl⟩
  · exact ⟨h, .inl hst⟩
  · exact ⟨h, hst⟩

theorem finishTick_opShb_samePacket {t : State} {k : Nat} (hst : s.tx.fstate = .sendingHeaderBurst)
    (h : finishTick k (opShb s) = .next t) :
    SamePacket s t ∧ (t.tx.fstate = .sendingHeaderBurst ∨ t.tx.fstate = .waitingForHeaderBurstIngestion) := by
  refine finishTick_leads (fun v ⟨hv, hfs⟩ => ?_) k _ (opShb_leads_samePacket ⟨rfl, rfl⟩ hst) h
  simpa only [opOf, hfs] using opShb_leads_samePacket hv hfs

end Header

/-! ### The end of a body (R211 to R215), on the terms of the claims -/

section BodyEnd
variable {s : State} {e : TxEntry} {rest : List TxEntry}

theorem bodyDone_iff : BodyDone s e ↔ (s.bodyAt e).1.toNat = (s.body s.tx.txCur e).length ∧ (s.bodyAt e).2 = false := by
  rw [BodyDone, ← bodySent_eq_bodyWritten, State.body_length]
  rfl

theorem mustPreempt_iff : MustPreempt s e ↔ (s.bodyAt e).2 = false ∧ (s.bodySent e).higherWaiting = true := by
  have hcount (q : Prio) : 0 < (s.bodySent e).countTx q ↔ (s.txp q).queue ≠ [] := List.length_pos_iff
  rw [MustPreempt, ← bodySent_eq_bodyWritten, higherWaiting_iff]
  refine and_congr Iff.rfl (exists_congr fun q => and_congr Iff.rfl ?_)
  rw [hcount, and_comm]
  rfl

/-- FR_SB with burst and packet left, case by case on the terms of the claims (R211). -/
theorem opSb_of_head (he : s.headTx? s.tx.txCur = some e) (hburst : s.tx.burst.toNat < s.ctl.maxBurst.toNat) :
    (BodyDone s e ∧ opSb s = ((bodyWritten s e).complete e).enterWait .waitingForBurstIngestion true) ∨
    (¬ BodyDone s e ∧ MustPreempt s e ∧
      opSb s = ((bodyWritten s e).preempt e).enterWait .waitingForPartialBurstIngestion false) ∨
    (¬ BodyDone s e ∧ ¬ MustPreempt s e ∧
      (s.ctl.maxBurst.toNat ≤ s.tx.burst.toNat + answerTo s (bodySize s e) ∧
        opSb s = (bodyWritten s e).enterWait .waitingForBurstIngestion false ∨
       s.tx.burst.toNat + answerTo s (bodySize s e) < s.ctl.maxBurst.toNat ∧
        (answerTo s (bodySize s e) < bodySize s e ∧ opSb s = .ret (bodyWritten s e) .none ∨
         answerTo s (bodySize s e) = bodySize s e ∧ opSb s = .cont (bodyWritten s e)))) := by
  obtain ⟨hle, -⟩ | ⟨-, hnone, -⟩ | ⟨d, -, hd, ho⟩ := opSb_cases s
  · exact absurd hburst (Nat.not_lt_of_le hle)
  · cases he.symm.trans hnone
  cases hd.symm.trans he
  rw [bodySent_burst_iff, ← bodyDone_iff, ← mustPreempt_iff, Nat.not_le, answer_eq_answerTo, bodySent_eq_bodyWritten] at ho
  obtain ho | ⟨hdone, ho | ⟨hpre, ho⟩⟩ := ho
  · exact .inl ho
  · exact .inr (.inl ⟨hdone, ho⟩)
  · exact .inr (.inr ⟨hdone, hpre, ho⟩)

/-- The quotient of R213 where `tx_total` is recorded. -/
theorem latencyPerByte_eq (lat : W64) {total : W16} (h : total ≠ 0) :
    latencyPerByte lat total = BitVec.ofNat 64 (lat.toNat / total.toNat) := by
  rw [latencyPerByte, if_neg h]
  apply BitVec.eq_of_toNat_eq
  have hlt : lat.toNat / total.toNat < 2 ^ 64 := (Nat.div_le_self _ _).trans_lt lat.isLt
  rw [BitVec.toNat_udiv, BitVec.toNat_setWidth_of_le (by decide), BitVec.toNat_ofNat, Nat.mod_eq_of_lt hlt]

/-- Accounting a delivery (R213). -/
theorem account_of_new {p : Prio} (hnew : (s.txp p).lastSeq = sentinel ∨ (s.txp p).lastSeq < e.seq)
    (htotal : (s.txp p).total ≠ 0) :
    s.account p e = s.setTxp p { s.txp p with
      sent := (s.txp p).sent + 1, latency := (s.txp p).latency + (s.env.now - e.commitTime)
      latPerByte := (s.txp p).latPerByte + BitVec.ofNat 64 ((s.env.now - e.commitTime).toNat / (s.txp p).total.toNat)
      reliable := (s.txp p).reliable + (if e.ack then 1 else 0), lastSeq := e.seq } := by
  have hack : (if e.ack then (s.txp p).reliable + 1 else (s.txp p).reliable) =
      (s.txp p).reliable + (if e.ack then 1 else 0) := by cases e.ack <;> simp
  rw [State.account]
  dsimp only
  rw [if_pos hnew, latencyPerByte_eq _ htotal, hack]

/-- Accounting a packet sent before (R213). -/
theorem account_of_not_new {p : Prio} (hnew : ¬ ((s.txp p).lastSeq = sentinel ∨ (s.txp p).lastSeq < e.seq)) :
    s.account p e = s.setTxp p { s.txp p with retx := (s.txp p).retx + 1 } := by
  rw [State.account]
  exact if_neg hnew

/-- The packet is counted (R212, R214). -/
def Counted (s : State) (e : TxEntry) : Prop :=
  e.init = false ∧ accepts s.params.txAccept (s.txPacket s.tx.txCur e) = true

theorem complete_of_counted (h : Counted s e) : s.complete e = (s.account s.tx.txCur e).popTx s.tx.txCur := if_pos h

theorem complete_of_not_counted (h : ¬ Counted s e) : s.complete e = s.popTx s.tx.txCur := if_neg h

/-- A preemption writes one transmit side (R215). -/
theorem preempt_eq (h : (s.txp s.tx.txCur).queue = e :: rest) :
    s.preempt e = s.setTxp s.tx.txCur { s.txp s.tx.txCur with
      brk := BitVec.ofNat 16 (min ((s.txp s.tx.txCur).brk.toNat + s.tx.bpos.toNat) (fullLen (s.txp s.tx.txCur) e))
      queue := { e with cont := true, len := BitVec.ofNat 16 (fullLen (s.txp s.tx.txCur) e -
        min ((s.txp s.tx.txCur).brk.toNat + s.tx.bpos.toNat) (fullLen (s.txp s.tx.txCur) e)) } :: rest } :=
  setTxp_setHeadTx (x := { s.txp s.tx.txCur with brk := _ }) h

end BodyEnd

end Sys2Proof.Machine

namespace Sys2Proof.Proofs

open Sys2Proof Sys2Proof.Machine Sys2Proof.Claims

/-- Settles O25: the disabled row of R115, and FR_OFF by evaluation. -/
theorem disabledTick : Obligations.DisabledTick :=
  ⟨fun _ hen => (tickSelects_disabled hen).2 rfl, fun _ _ => rfl⟩

/-- Settles O26: the row of Halted, and an operation that ends the tick at once. -/
theorem haltedTick : Obligations.HaltedTick :=
  ⟨fun _ hen hst => (tickSelects_enabled hen).2 (congrArg FState.row hst), fun _ => finishTick_ret ..⟩

/-- Settles O27: the selection is the head of a list in rising order. -/
theorem highestPrioritySelected : Obligations.HighestPrioritySelected := fun _ =>
  ⟨fun _ => select?_eq_some_iff, select?_eq_none_iff⟩

/-- Settles O28: with no packet to select FR_GNP ends the tick at once. -/
theorem idleTick : Obligations.IdleTick := by
  refine ⟨fun s hen hst => (tickSelects_enabled hen).2 (congrArg FState.row hst), fun s hempty => ?_⟩
  have hnone : s.select? = none := select?_eq_none_iff.2 fun q hq => countTx_eq_zero_iff.2 (hempty q hq)
  obtain ⟨-, ho⟩ | ⟨p, e, hp, -⟩ := opGnp_cases s
  · exact gives_silent ho rfl
  · cases hp.symm.trans hnone

/-- Settles O29: a selected continuation that fails the test of R207 takes the fatal outcome. -/
theorem fatalSelection : Obligations.FatalSelection := by
  intro s p e rest hsel hcont hbad
  obtain ⟨hfresh, -⟩ | ⟨-, -, ho⟩ | ⟨-, htotal, hfits, -⟩ := opGnp_of_selected hsel
  · cases hfresh.symm.trans hcont
  · exact gives_silent ho rfl
  · exact absurd hbad (not_or.2 ⟨htotal, Nat.not_lt_of_le hfits⟩)

/-- Settles O30: the frame begun has a header to send and a head to take it from, so the tick completes. -/
theorem selectionBeginsFrame : Obligations.SelectionBeginsFrame := by
  intro s p e rest hcaps hsel
  have ⟨_, hqueue, _⟩ := hsel
  refine ⟨fun hfresh => ?fresh, fun hcont htotal hfits => ?continuation⟩
  case fresh =>
    obtain ⟨-, ho⟩ | ⟨hcont, -⟩ | ⟨hcont, -⟩ := opGnp_of_selected hsel
    · rw [recordFresh_eq hqueue] at ho
      exact continuesWith_of_cont ho rfl rfl (.beginFrame hcaps (setTxp_headTx? rfl)) (Nat.le_refl _)
    all_goals cases hfresh.symm.trans hcont
  case continuation =>
    obtain ⟨hfresh, -⟩ | ⟨-, hbad, -⟩ | ⟨-, -, -, ho⟩ := opGnp_of_selected hsel
    · cases hfresh.symm.trans hcont
    · exact absurd hbad (not_or.2 ⟨htotal, Nat.not_lt_of_le hfits⟩)
    · exact continuesWith_of_cont ho rfl rfl (.beginFrame hcaps (headTx?_of_queue hqueue)) (Nat.le_refl _)

/-- Settles O31: the cases of FR_SHB; a header write that goes on leaves header bytes to send. -/
theorem headerWrite : Obligations.HeaderWrite := by
  refine ⟨fun s hen hst => (tickSelects_enabled hen).2 (congrArg FState.row hst), fun s hburst => ?used, ?write⟩
  case used =>
    obtain ⟨-, ho⟩ | ⟨hlt, -⟩ | ⟨-, hlt, -⟩ := opShb_cases s
    · exact gives_waiting ho rfl
    all_goals exact absurd hburst hlt
  case write =>
    intro s e hst he hcaps hpos hburst n w header t ends
    have ht : s.headerWritten e = t := by rw [headerWritten_eq_sent, answer_eq_answerTo]; rfl
    obtain ⟨hle, -⟩ | ⟨-, hnone, -⟩ | ⟨d, -, hd, ho⟩ := opShb_cases s
    · exact absurd hburst (Nat.not_lt_of_le hle)
    · cases he.symm.trans hnone
    cases hd.symm.trans he
    have hends := headerWritten_ends_iff s e
    rw [answer_eq_answerTo] at hends ho
    obtain ⟨hend, ho⟩ | ⟨hgo, ho⟩ := ho
    · exact ⟨fun _ => ht ▸ gives_waiting ho rfl, fun h => absurd (hends.1 hend) h, fun h => absurd (hends.1 hend) h⟩
    have hnot : ¬ ends := fun h => hgo (hends.2 h)
    obtain ⟨hshort, ho⟩ | ⟨hfull, ho⟩ := ho
    · exact ⟨fun h => absurd h hnot,
        fun _ _ => ht ▸ gives_silent ho rfl, fun _ h => absurd h (Nat.ne_of_lt hshort)⟩
    · refine ⟨fun h => absurd h hnot, fun _ h => absurd hfull (Nat.ne_of_lt h), fun _ _ => ?_⟩
      have hleft := headerWritten_hdrPos_lt hpos fun h => hgo (.inl h)
      rw [ht] at ho hleft
      exact continuesWith_of_cont ho rfl (congrArg FState.row hst) (.of_sendingHeaderBurst hcaps hst he hleft)
        (List.length_tail .. ▸ Nat.sub_le ..)

/-- Settles O32: the three waiting rows, and the first case of their operations. -/
theorem waitNotOver : Obligations.WaitNotOver := by
  refine ⟨fun s hen => ⟨fun hst => ?_, fun hst => ?_, fun hst => ?_⟩, fun s i hi hlt => ?wait⟩
  case wait =>
    have hw : s.waiting = true := Bool.eq_true_of_not_eq_false fun h => Nat.not_le_of_lt hlt (waiting_eq_false_iff.1 h)
    have hend (o : TickRes) (ho : o = .ret s s.waitLeft) : finishTick s.tickBound o = .next { s with env := { s.env with
        hint := .wait (BitVec.ofNat 64 (s.tx.waitUntil.toNat - s.env.now.toNat)) } } := by
      rw [ho, finishTick_ret, waitLeft_eq hlt]
    obtain rfl | rfl | rfl := hi <;> exact hend _ (if_pos hw)
  all_goals exact (tickSelects_enabled hen).2 (congrArg FState.row hst)

/-- Settles O33: the cases of the three waiting operations; each goes on in a state from which a tick completes. -/
theorem waitOver : Obligations.WaitOver := by
  intro s hcaps hover
  have hw : s.waiting = false := waiting_eq_false_iff.2 hover
  have hwait (h : s.waiting = true) : False := by cases hw.symm.trans h
  refine ⟨fun e he hpos => ?header, fun e he hpos => ?bodyBegins, fun e he hbody hdone => ?body,
    fun hdone => ?done, ?preempted⟩
  case header =>
    obtain ⟨h, -⟩ | ⟨-, -, ho⟩ | ⟨-, hge, -⟩ := opWhbi_cases s
    · exact (hwait h).elim
    · exact continuesWith_of_cont ho rfl rfl (.of_sendingHeaderBurst hcaps rfl he hpos) (Nat.le_refl _)
    · exact absurd hpos (Nat.not_lt_of_le hge)
  case bodyBegins =>
    obtain ⟨h, -⟩ | ⟨-, hlt, -⟩ | ⟨-, -, ho⟩ := opWhbi_cases s
    · exact (hwait h).elim
    · rw [hpos] at hlt; exact absurd hlt (by decide)
    · exact continuesWith_of_cont ho rfl rfl (.of_sendingBurst hcaps rfl he ⟨Nat.zero_le _, nofun⟩) (Nat.le_refl _)
  case body =>
    obtain ⟨h, -⟩ | ⟨-, h, -⟩ | ⟨-, -, ho⟩ := opWbi_cases s
    · exact (hwait h).elim
    · cases h.symm.trans hdone
    · exact continuesWith_of_cont ho rfl rfl (.of_sendingBurst hcaps rfl he hbody) (Nat.le_refl _)
  case done =>
    obtain ⟨h, -⟩ | ⟨-, -, ho⟩ | ⟨-, h, -⟩ := opWbi_cases s
    · exact (hwait h).elim
    · exact continuesWith_of_cont ho rfl rfl (.of_gettingNextPacket hcaps rfl) (Nat.le_refl _)
    · cases h.symm.trans hdone
  case preempted =>
    obtain ⟨h, -⟩ | ⟨-, ho⟩ := opWpbi_cases s
    · exact (hwait h).elim
    · exact continuesWith_of_cont ho rfl rfl (.of_gettingNextPacket hcaps rfl) (Nat.le_refl _)

/-- Settles O34: the cases of FR_SB that neither complete nor preempt; a write that goes on stays in the body. -/
theorem bodyWrite : Obligations.BodyWrite := by
  refine ⟨fun s hen hst => (tickSelects_enabled hen).2 (congrArg FState.row hst), fun s hburst => ?used, ?write⟩
  case used =>
    obtain ⟨-, ho⟩ | ⟨hlt, -⟩ | ⟨-, hlt, -⟩ := opSb_cases s
    · exact gives_waiting ho rfl
    all_goals exact absurd hburst hlt
  case write =>
    intro s e hst he hcaps hpos hburst hdone hpre w
    obtain ⟨h, -⟩ | ⟨-, h, -⟩ | ⟨-, -, ⟨hfilled, ho⟩ | ⟨hroom, ⟨hshort, ho⟩ | ⟨hfull, ho⟩⟩⟩ := opSb_of_head he hburst
    · exact absurd h hdone
    · exact absurd h hpre
    · exact ⟨fun _ => gives_waiting ho rfl,
        fun h => absurd h (Nat.not_lt_of_le hfilled), fun h => absurd h (Nat.not_lt_of_le hfilled)⟩
    · exact ⟨fun h => absurd hroom (Nat.not_lt_of_le h),
        fun _ _ => gives_silent ho rfl, fun _ h => absurd h (Nat.ne_of_lt hshort)⟩
    · refine ⟨fun h => absurd hroom (Nat.not_lt_of_le h), fun _ h => absurd hfull (Nat.ne_of_lt h), fun _ _ => ?_⟩
      have hpos' : BodyPosition (bodyWritten s e) e := bodySent_eq_bodyWritten s e ▸ bodyPosition_bodySent hpos
      exact continuesWith_of_cont ho rfl (congrArg FState.row hst) (.of_sendingBurst hcaps hst he hpos')
        (List.length_tail .. ▸ Nat.sub_le ..)

/-- Settles O35: the completing case of FR_SB; accounting and the pop write one transmit side. -/
theorem bodyCompletes : Obligations.BodyCompletes := by
  intro s e rest hqueue hburst hdone p x t full counted isNew lat
  have hgives {u : State} (hu : t.complete e = u) : Gives .frSb s (waiting u .waitingForBurstIngestion true) := by
    obtain ⟨-, ho⟩ | ⟨h, -⟩ | ⟨h, -⟩ := opSb_of_head (headTx?_of_queue hqueue) hburst
    · exact hu ▸ gives_waiting ho rfl
    all_goals exact absurd hdone h
  refine ⟨fun hnot => hgives ?discounted, fun hc hnew htotal => hgives ?new, fun hc hold => hgives ?again⟩
  case discounted => exact (complete_of_not_counted (s := t) hnot).trans (popTx_of_queue (s := t) hqueue)
  case new =>
    rw [complete_of_counted (s := t) hc, account_of_new (s := t) (p := t.tx.txCur) hnew htotal]
    exact setTxp_popTx hqueue
  case again =>
    rw [complete_of_counted (s := t) hc, account_of_not_new (s := t) (p := t.tx.txCur) hold]
    exact setTxp_popTx hqueue

/-- Settles O36: the preempting case of FR_SB; the new break and the head rewrite are in one transmit side. -/
theorem bodyPreempted : Obligations.BodyPreempted := by
  intro s e rest hqueue hburst hdone hpre p x t full a
  obtain ⟨h, -⟩ | ⟨-, -, ho⟩ | ⟨-, h, -⟩ := opSb_of_head (headTx?_of_queue hqueue) hburst
  · exact absurd h hdone
  · rw [preempt_eq (s := t) hqueue] at ho
    exact gives_waiting ho rfl
  · exact absurd hpre h

/-- Settles O37: the stream is followed byte by byte, and it is empty exactly at the end of the body. -/
theorem advanceFollowsWire : Obligations.AdvanceFollowsWire := by
  intro P body bpos esc w hlen hpos hesc hw r
  have hin := withinBody_or_end_iff.2 ⟨hpos, hesc⟩
  have hr := advance_withinBody_or_end hlen w bpos esc hin hw
  have hwire : wire P body r.1 r.2 = (wire P body bpos esc).drop w := wire_advance hlen w bpos esc hin hw
  obtain ⟨hle, howed⟩ := withinBody_or_end_iff.1 hr
  refine ⟨hwire, hle, howed, ?_⟩
  calc w = (wire P body bpos esc).length
      ↔ (wire P body bpos esc).drop w = [] := by rw [List.drop_eq_nil_iff]; omega
    _ ↔ wire P body r.1 r.2 = [] := by rw [hwire]
    _ ↔ r.1.toNat = body.length ∧ r.2 = false := wire_eq_nil_iff hr

/-- Settles O38: a disabled framer sends nothing; an enabled one runs the operation of its engine state. -/
theorem tickIsBounded : Obligations.TickIsBounded := by
  intro s t i hsel ht
  change WithinTick s t.env
  cases hen : s.ctl.txEn with
  | false =>
    obtain rfl := (tickSelects_disabled hen).1 hsel
    cases ht
    exact SentNothing.withinTick ⟨rfl, rfl, rfl⟩
  | true =>
    obtain rfl := (tickSelects_enabled hen).1 hsel
    exact finishTick_withinTick ((exec_row s).symm.trans ht)

/-- Settles O39: every operation of the tick is a header write. -/
theorem headerIsNotPreempted : Obligations.HeaderIsNotPreempted := by
  intro s t hst ht
  obtain ⟨⟨hprio, hcur⟩, hfs⟩ := finishTick_opShb_samePacket hst ht
  exact ⟨hprio, hcur, hfs⟩

end Sys2Proof.Proofs

/-! PROOFS. Statements of spec/42_host_interface.md: the values the registers read (R262, R263, R270, R274 to R277, R279 to R282,
R284), what the writes store (R264 to R269, R271 to R273, R275 to R278, R280, R283), and the accesses that change nothing or only
BUS_ERR (R260, R261). -/

namespace Sys2Proof.Machine

open Sys2Proof Sys2Proof.Claims

/-! ### How a host access ends (R260) -/

section Access
variable {s t : State} {i : Instr} {v w : W64}

theorem returns_of_readDone (hexec : exec i s = .next (s.readDone w)) (hw : w = v) : Returns i s v := hw ▸ hexec

theorem writes_of_writeDone {u : State} (hexec : exec i s = .next u.writeDone) (hu : u = t) : Writes i s t := hu ▸ hexec

/-- A register of the head of the selected RX FIFO (R281). -/
theorem headReads_of_rxHeadField {f g : RxEntry → W64} (hexec : exec i s = .next (s.readDone (s.rxHeadField g)))
    (hg : ∀ e, g e = f e) : HeadReads i s f := by
  refine ⟨fun hempty => returns_of_readDone hexec ?empty, fun e rest hqueue => returns_of_readDone hexec ?head⟩
  case empty => simp only [State.rxHeadField, State.headRx?, hempty, List.head?_nil]
  case head => simp only [State.rxHeadField, State.headRx?, hqueue, List.head?_cons, hg]

end Access

/-! ### Packed registers (spec/10_state.md R41 to R50): each field stands at its bit position -/

theorem eq_ofNat_of_toNat {n k : Nat} {x : BitVec n} (h : x.toNat = k) : x = BitVec.ofNat n k := by
  rw [← h, BitVec.ofNat_toNat, BitVec.setWidth_eq]

/-- The field written first stands above the bits of the second. -/
theorem toNat_append_eq_add {m n : Nat} (x : BitVec m) (y : BitVec n) :
    (x ++ y).toNat = x.toNat * 2 ^ n + y.toNat := by
  rw [BitVec.toNat_append, ← Nat.shiftLeft_add_eq_or_of_lt y.isLt, Nat.shiftLeft_eq]

theorem paramsWord_toNat {P : Params} (h : P.Legal) :
    (paramsWord P).toNat = P.nPrio + P.qdepth * 2 ^ 8 + P.capacity * 2 ^ 16 + 13 * 2 ^ 32 + 4 * 2 ^ 40 +
      P.startTok.toNat * 2 ^ 48 + P.escTok.toNat * 2 ^ 56 := by
  obtain ⟨⟨-, hprio⟩, ⟨-, hcap⟩, ⟨-, hdepth⟩, -⟩ := h
  simp only [paramsWord, toNat_append_eq_add, BitVec.toNat_ofNat, hdrLen, ftrLen]
  omega

theorem ctrlWord_toNat (c : Control) :
    (ctrlWord c).toNat = c.rxEn.toNat + c.txEn.toNat * 2 + c.lastStartResync.toNat * 4 := by
  simp only [ctrlWord, toNat_append_eq_add, BitVec.toNat_ofBool, BitVec.toNat_ofNat]
  omega

theorem statusWord_toNat (s : State) :
    (statusWord s).toNat = s.rx.dstate.code.toNat + s.tx.fstate.code.toNat * 2 ^ 4 + s.tx.escPending.toNat * 2 ^ 7 +
      s.ctl.fatal.toNat * 2 ^ 8 + s.ctl.busErr.toNat * 2 ^ 9 + s.ctl.hostErr.toNat * 2 ^ 10 +
      s.ctl.hostErrCause.toNat * 2 ^ 11 + s.tx.fDone.toNat * 2 ^ 13 + s.rx.rxCur.toNat * 2 ^ 16 +
      s.tx.txCur.toNat * 2 ^ 20 + s.rx.lastCause.toNat * 2 ^ 24 := by
  simp only [statusWord, toNat_append_eq_add, BitVec.toNat_ofBool, BitVec.toNat_ofNat]
  omega

theorem dbgRxWord_toNat (d : Deframer) :
    (dbgRxWord d).toNat = d.hdrCnt.toNat + d.ftrPos.toNat * 2 ^ 4 + d.curOff.toNat * 2 ^ 16 := by
  simp only [dbgRxWord, toNat_append_eq_add, BitVec.toNat_ofNat]
  omega

theorem dbgTxWord_toNat (f : Framer) :
    (dbgTxWord f).toNat = f.hdrPos.toNat + f.bpos.toNat * 2 ^ 16 + f.burst.toNat * 2 ^ 32 := by
  simp only [dbgTxWord, toNat_append_eq_add, BitVec.toNat_ofNat]
  omega

theorem txFlagsWord_toNat (x : TxSlot) :
    (txFlagsWord x).toNat = x.cont.toNat + x.init.toNat * 2 + x.ack.toNat * 4 := by
  simp only [txFlagsWord, toNat_append_eq_add, BitVec.toNat_ofBool, BitVec.toNat_ofNat]
  omega

theorem rxFlagsWord_toNat (e : RxEntry) : (rxFlagsWord e).toNat = e.init.toNat * 2 + e.ack.toNat * 4 := by
  simp only [rxFlagsWord, toNat_append_eq_add, BitVec.toNat_ofBool, BitVec.toNat_ofNat]
  omega

/-! ### Values of one field -/

theorem setWidth_eq_ofNat {m n : Nat} (x : BitVec m) : x.setWidth n = BitVec.ofNat n x.toNat := (BitVec.ofNat_toNat n x).symm

theorem ofBool_setWidth_eq_ofNat (b : Bool) : (BitVec.ofBool b).setWidth 64 = BitVec.ofNat 64 b.toNat := by
  rw [setWidth_eq_ofNat, BitVec.toNat_ofBool]

theorem countWord_eq (n : Nat) : countWord n = BitVec.ofNat 64 (n % 256) := by
  rw [countWord, setWidth_eq_ofNat, BitVec.toNat_ofNat]

theorem rxContentWord_eq (i : BitVec 13) (e : RxEntry) :
    rxContentWord i e = if i.toNat < e.len.toNat then BitVec.ofNat 64 (e.content.getD i.toNat 0).toNat else 0 := by
  rw [rxContentWord, setWidth_eq_ofNat]

/-! ### The fields a write stores (R271, R272, R275, R280) -/

theorem warlNonzero_eq (v : W64) :
    warlNonzero v = if v.toNat % 2 ^ 32 = 0 then 1 else BitVec.ofNat 32 v.toNat := by
  have hzero : v.setWidth 32 = 0#32 ↔ v.toNat % 2 ^ 32 = 0 := by rw [← BitVec.toNat_inj, BitVec.toNat_setWidth]; rfl
  exact if_congr hzero rfl (setWidth_eq_ofNat v)

/-- The test of a selector write compares the whole value: `N_PRIO` is at most 16. -/
theorem selector_legal_iff {P : Params} (h : P.nPrio ≤ 16) (v : W64) :
    (v.extractLsb' 4 60 = 0#60 ∧ (v.setWidth 4).toNat < P.nPrio) ↔ v.toNat < P.nPrio := by
  have hv := v.isLt
  rw [← BitVec.toNat_inj, BitVec.extractLsb'_toNat, BitVec.toNat_setWidth, BitVec.toNat_ofNat, Nat.shiftRight_eq_div_pow]
  omega

theorem warlPrio_eq_newSelector {P : Params} (h : P.nPrio ≤ 16) (old : Prio) (v : W64) :
    warlPrio P old v = newSelector P old v :=
  if_congr (selector_legal_iff h v) (setWidth_eq_ofNat v) rfl

theorem writeStatus_eq (s : State) (v : W64) : s.writeStatus v = { s with ctl := { s.ctl with
    busErr := if v.getLsbD 9 then false else s.ctl.busErr
    hostErr := if v.getLsbD 10 then false else s.ctl.hostErr
    hostErrCause := if v.getLsbD 10 then 0 else s.ctl.hostErrCause } } := by
  have hclear (old bit : Bool) : (old && !bit) = if bit then false else old := by cases bit <;> simp
  simp only [State.writeStatus, hclear]

/-! ### The stores (R278, R283) -/

section Stores
variable {s : State}

theorem commitTx_of_tooLong (hlen : s.params.capacity < s.selTx.len.toNat) : s.commitTx = s.raise (.hostError 1) :=
  if_pos hlen

theorem commitTx_of_full (hlen : s.selTx.len.toNat ≤ s.params.capacity)
    (hfull : s.countTx s.ctl.txSel = s.params.qdepth) : s.commitTx = s.raise (.hostError 2) :=
  (if_neg (Nat.not_lt_of_le hlen)).trans (if_pos hfull)

theorem commitTx_of_room (hlen : s.selTx.len.toNat ≤ s.params.capacity)
    (hroom : s.countTx s.ctl.txSel ≠ s.params.qdepth) :
    s.commitTx = s.pushTx s.ctl.txSel (txEntryOf s.selTx s.env.now) :=
  (if_neg (Nat.not_lt_of_le hlen)).trans (if_neg hroom)

theorem bankSet_bankGet {α : Type} (b : Bank α) (p : Prio) : bankSet b p (bankGet b p) = b := Vector.set_getElem_self _

theorem setRxp_rxp_eq (s : State) (p : Prio) : s.setRxp p (s.rxp p) = s := by
  rw [State.setRxp, State.rxp, bankSet_bankGet]

theorem popRx_of_queue {p : Prio} {q : List RxEntry} (hq : (s.rxp p).queue.tail = q) :
    s.popRx p = s.setRxp p { s.rxp p with queue := q } := by
  rw [State.popRx, hq]

theorem popRx_of_empty {p : Prio} (hempty : (s.rxp p).queue = []) : s.popRx p = s := by
  calc s.popRx p
      = s.setRxp p { s.rxp p with queue := (s.rxp p).queue } := popRx_of_queue (by rw [hempty]; rfl)
    _ = s := setRxp_rxp_eq s p

end Stores

/-! ### The action bits of CTRL (R264 to R269) -/

section Control
variable (s : State) (b : Bool) (p : Prio)

/-- An item that an action leaves unchanged is left unchanged whether the bit is written 1 or 0. -/
theorem actIf_frame {α : Type} (item : State → α) {act : State → State} (h : ∀ u, item (act u) = item u) :
    item (s.actIf b act) = item s := by
  cases b with
  | false => rfl
  | true => exact h s

theorem actIf_statsClear_rx : (s.actIf b State.statsClear).rx =
    { s.rx with discardCount := if b then 0 else s.rx.discardCount, lastCause := if b then 0 else s.rx.lastCause } := by
  cases b <;> rfl

theorem actIf_statsClear_txp : (s.actIf b State.statsClear).txp p = { s.txp p with
    sent := if b then 0 else (s.txp p).sent
    retx := if b then 0 else (s.txp p).retx
    reliable := if b then 0 else (s.txp p).reliable
    latency := if b then 0 else (s.txp p).latency
    latPerByte := if b then 0 else (s.txp p).latPerByte } := by
  cases b with
  | false => rfl
  | true => exact s.statsClear_txp p

theorem actIf_rxFlush_rxp :
    (s.actIf b State.rxFlush).rxp p = { s.rxp p with queue := if b then [] else (s.rxp p).queue } := by
  cases b with
  | false => rfl
  | true => exact s.rxFlush_rxp p

theorem actIf_rxSoftReset_rx : (s.actIf b State.rxSoftReset).rx =
    if b then { s.rx with dstate := .waitingForPacket, hdrBuf := Vector.replicate 13 0, hdrCnt := 0, rxCur := 0,
                          curOff := 0, ftrBuf := Vector.replicate 4 0, ftrPos := 0 }
    else s.rx := by
  cases b <;> rfl

theorem actIf_rxSoftReset_rxp : (s.actIf b State.rxSoftReset).rxp p =
    { s.rxp p with active := if b then false else (s.rxp p).active, brk := if b then 0 else (s.rxp p).brk } := by
  cases b with
  | false => rfl
  | true => exact s.rxSoftReset_rxp p

theorem actIf_txFlush_txp :
    (s.actIf b State.txFlush).txp p = { s.txp p with queue := if b then [] else (s.txp p).queue } := by
  cases b with
  | false => rfl
  | true => exact s.txFlush_txp p

/-- TX_FLUSH and TX_SRST each end in the framer's soft reset (R266, R268). -/
theorem actIf_txReset_tx (b' : Bool) : ((s.actIf b' State.txFlush).actIf b State.txSoftReset).tx =
    if b || b' then { fstate := .gettingNextPacket, txCur := 0, hdrPos := 0, bpos := 0, escPending := false,
                      burst := 0, waitUntil := 0, fDone := false }
    else s.tx := by
  cases b <;> cases b' <;> rfl

theorem actIf_txReset_ctl (b' : Bool) : ((s.actIf b' State.txFlush).actIf b State.txSoftReset).ctl =
    { s.ctl with fatal := if b || b' then false else s.ctl.fatal } := by
  cases b <;> cases b' <;> rfl

variable (v : W64)

theorem writeCtrl_env : (s.writeCtrl v).env = s.env := by
  simp only [State.writeCtrl, actIf_frame _ _ State.env State.statsClear_env, actIf_frame _ _ State.env State.rxFlush_env,
    actIf_frame _ _ State.env State.rxSoftReset_env, actIf_frame _ _ State.env State.txFlush_env,
    actIf_frame _ _ State.env State.txSoftReset_env]

theorem writeCtrl_ctl : (s.writeCtrl v).ctl = { s.ctl with
    rxEn := v.getLsbD 0, txEn := v.getLsbD 1, lastStartResync := v.getLsbD 2
    fatal := if v.getLsbD 9 || v.getLsbD 11 then false else s.ctl.fatal } := by
  simp only [State.writeCtrl, actIf_txReset_ctl, actIf_frame _ _ State.ctl State.rxSoftReset_ctl,
    actIf_frame _ _ State.ctl State.rxFlush_ctl, actIf_frame _ _ State.ctl State.statsClear_ctl]

theorem writeCtrl_rx : (s.writeCtrl v).rx =
    { (if v.getLsbD 8 then { s.rx with dstate := .waitingForPacket, hdrBuf := Vector.replicate 13 0, hdrCnt := 0,
                                       rxCur := 0, curOff := 0, ftrBuf := Vector.replicate 4 0, ftrPos := 0 }
       else s.rx) with
      discardCount := if v.getLsbD 12 then 0 else s.rx.discardCount
      lastCause := if v.getLsbD 12 then 0 else s.rx.lastCause } := by
  simp only [State.writeCtrl, actIf_frame _ _ State.rx State.txSoftReset_rx, actIf_frame _ _ State.rx State.txFlush_rx,
    actIf_rxSoftReset_rx, actIf_frame _ _ State.rx State.rxFlush_rx, actIf_statsClear_rx]
  cases v.getLsbD 8 <;> rfl

theorem writeCtrl_tx : (s.writeCtrl v).tx = if v.getLsbD 9 || v.getLsbD 11 then
      { fstate := .gettingNextPacket, txCur := 0, hdrPos := 0, bpos := 0, escPending := false, burst := 0,
        waitUntil := 0, fDone := false }
    else s.tx := by
  simp only [State.writeCtrl, actIf_txReset_tx, actIf_frame _ _ State.tx State.rxSoftReset_tx,
    actIf_frame _ _ State.tx State.rxFlush_tx, actIf_frame _ _ State.tx State.statsClear_tx]

theorem writeCtrl_rxp : (s.writeCtrl v).rxp p = { s.rxp p with
    active := if v.getLsbD 8 then false else (s.rxp p).active
    brk := if v.getLsbD 8 then 0 else (s.rxp p).brk
    queue := if v.getLsbD 10 then [] else (s.rxp p).queue } := by
  simp only [State.writeCtrl, actIf_frame _ _ (State.rxp · p) (State.txSoftReset_rxp · p),
    actIf_frame _ _ (State.rxp · p) (State.txFlush_rxp · p), actIf_rxSoftReset_rxp, actIf_rxFlush_rxp,
    actIf_frame _ _ (State.rxp · p) (State.statsClear_rxp · p), State.mk_rxp, bankGet_rxPrio]

theorem writeCtrl_txp : (s.writeCtrl v).txp p = { s.txp p with
    sent := if v.getLsbD 12 then 0 else (s.txp p).sent
    retx := if v.getLsbD 12 then 0 else (s.txp p).retx
    reliable := if v.getLsbD 12 then 0 else (s.txp p).reliable
    latency := if v.getLsbD 12 then 0 else (s.txp p).latency
    latPerByte := if v.getLsbD 12 then 0 else (s.txp p).latPerByte
    queue := if v.getLsbD 11 then [] else (s.txp p).queue } := by
  simp only [State.writeCtrl, actIf_frame _ _ (State.txp · p) (State.txSoftReset_txp · p), actIf_txFlush_txp,
    actIf_frame _ _ (State.txp · p) (State.rxSoftReset_txp · p), actIf_frame _ _ (State.txp · p) (State.rxFlush_txp · p),
    actIf_statsClear_txp, State.mk_txp, bankGet_txPrio]

end Control

end Sys2Proof.Machine

namespace Sys2Proof.Proofs

open Sys2Proof Sys2Proof.Machine Sys2Proof.Claims

/-- Settles O40: the numbers that the packed registers are. -/
theorem globalRegisterReads : Obligations.GlobalRegisterReads := fun s =>
  ⟨fun hlegal => returns_of_readDone rfl (eq_ofNat_of_toNat (paramsWord_toNat hlegal)),
    returns_of_readDone rfl (eq_ofNat_of_toNat (ctrlWord_toNat s.ctl)),
    returns_of_readDone rfl (eq_ofNat_of_toNat (statusWord_toNat s)),
    returns_of_readDone rfl (setWidth_eq_ofNat _), returns_of_readDone rfl (setWidth_eq_ofNat _),
    returns_of_readDone rfl (setWidth_eq_ofNat _), rfl, rfl,
    returns_of_readDone rfl (eq_ofNat_of_toNat (dbgRxWord_toNat s.rx)),
    returns_of_readDone rfl (eq_ofNat_of_toNat (dbgTxWord_toNat s.tx))⟩

/-- Settles O41: a content byte reads what `contentByte` answers for it. -/
theorem transmitRegisterReads : Obligations.TransmitRegisterReads := fun s =>
  ⟨returns_of_readDone rfl (setWidth_eq_ofNat _), rfl, returns_of_readDone rfl (setWidth_eq_ofNat _),
    returns_of_readDone rfl (eq_ofNat_of_toNat (txFlagsWord_toNat s.selTx)), rfl,
    returns_of_readDone rfl (countWord_eq _), fun _ => returns_of_readDone rfl (setWidth_eq_ofNat _)⟩

/-- Settles O42: a field of the head is 0 or is read from the oldest entry. -/
theorem receiveRegisterReads : Obligations.ReceiveRegisterReads := fun _ =>
  ⟨returns_of_readDone rfl (setWidth_eq_ofNat _), returns_of_readDone rfl (countWord_eq _),
    headReads_of_rxHeadField rfl fun _ => rfl, headReads_of_rxHeadField rfl fun _ => setWidth_eq_ofNat _,
    headReads_of_rxHeadField rfl fun e => eq_ofNat_of_toNat (rxFlagsWord_toNat e),
    headReads_of_rxHeadField rfl fun _ => setWidth_eq_ofNat _, headReads_of_rxHeadField rfl fun _ => rfl, rfl,
    fun i => headReads_of_rxHeadField rfl (rxContentWord_eq i)⟩

/-- Settles O43: 64-bit items are returned as they are, narrower ones zero-extended. -/
theorem priorityBlockReads : Obligations.PriorityBlockReads := fun _ _ =>
  ⟨rfl, rfl, rfl, rfl, rfl, rfl, returns_of_readDone rfl (setWidth_eq_ofNat _),
    returns_of_readDone rfl (setWidth_eq_ofNat _), returns_of_readDone rfl (ofBool_setWidth_eq_ofNat _),
    returns_of_readDone rfl (setWidth_eq_ofNat _), rfl, returns_of_readDone rfl (setWidth_eq_ofNat _)⟩

/-- Settles O44: each of the fourteen writes is the end of a host write and nothing else. -/
theorem readOnlyWrites : Obligations.ReadOnlyWrites := fun _ _ _ _ _ =>
  ⟨rfl, rfl, rfl, rfl, rfl, rfl, rfl, rfl, rfl, rfl, rfl, rfl, rfl, rfl⟩

/-- Settles O45: the items of the state that the fields and the five actions leave. -/
theorem controlWrite : Obligations.ControlWrite := fun s v =>
  ⟨s.writeCtrl v, rfl, writeCtrl_params s v, writeCtrl_env s v, writeCtrl_ctl s v, writeCtrl_rx s v, writeCtrl_tx s v,
    fun p => writeCtrl_rxp s p v, fun p => writeCtrl_txp s p v⟩

/-- Settles O46: write one to clear, bit by bit. -/
theorem statusWrite : Obligations.StatusWrite := fun s v => writes_of_writeDone rfl (writeStatus_eq s v)

/-- Settles O47: the value the caps store, and the low 32 bits. -/
theorem configurationWrites : Obligations.ConfigurationWrites := by
  intro s v x
  have hcap : warlNonzero v = x := warlNonzero_eq v
  exact ⟨writes_of_writeDone rfl (by rw [hcap]), writes_of_writeDone rfl (by rw [hcap]),
    writes_of_writeDone rfl (by rw [setWidth_eq_ofNat])⟩

/-- Settles O48: the bits that the model tests say that the value is below `N_PRIO`. -/
theorem selectorWrites : Obligations.SelectorWrites := by
  rintro s v ⟨⟨-, hprio⟩, -⟩
  exact ⟨writes_of_writeDone rfl (by rw [warlPrio_eq_newSelector hprio]),
    writes_of_writeDone rfl (by rw [warlPrio_eq_newSelector hprio])⟩

/-- Settles O49: the content after the write is read back offset by offset. -/
theorem slotWrites : Obligations.SlotWrites := by
  intro s v p x
  refine ⟨rfl, writes_of_writeDone rfl ?len, rfl,
    fun i => ⟨x.slot.content.write i.toNat (v.setWidth 8), ?byte, ?others, rfl⟩⟩
  case len => rw [setWidth_eq_ofNat]; rfl
  case byte => rw [Memory.read?_write_self, setWidth_eq_ofNat]
  case others => exact fun j hj => Memory.read?_write_ne _ _ _ _ hj

/-- Settles O50: the three branches of a commit. -/
theorem commit : Obligations.Commit := fun _ _ =>
  ⟨fun hlen => writes_of_writeDone rfl (commitTx_of_tooLong hlen),
    fun hlen hfull => writes_of_writeDone rfl (commitTx_of_full hlen hfull),
    fun hlen hroom => writes_of_writeDone rfl (commitTx_of_room hlen hroom)⟩

/-- Settles O51: the two cases of a pop. -/
theorem consume : Obligations.Consume := fun _ _ =>
  ⟨fun hempty => writes_of_writeDone rfl (popRx_of_empty hempty),
    fun _ _ hqueue => writes_of_writeDone rfl (popRx_of_queue (by rw [hqueue]; rfl))⟩

/-- Settles O52: a bus error is recorded in one bit of the control registers. -/
theorem unmappedAccess : Obligations.UnmappedAccess := fun _ _ _ _ => rfl

end Sys2Proof.Proofs

/-! PROOFS. Statements of spec/60_exceptions.md about the two engines: which items of the other side a link byte and a tick leave as
they are (R335), and that a tick records no error but FATAL (R324). -/

namespace Sys2Proof.Machine

open Sys2Proof.Claims Sys2Proof.Proofs

/-! ### What the deframer leaves unchanged (R335) -/

/-- Neither the framer's side of the block nor the interfaces differ between `s` and `t`. -/
structure KeepsTransmit (s t : State) : Prop where
  tx     : t.tx = s.tx
  txPrio : t.txPrio = s.txPrio
  ctl    : t.ctl = s.ctl
  env    : t.env = s.env

section Deframer
variable {s t : State}

theorem storeContent_keepsTransmit {c : Byte} (h : s.storeContent c = .next t) : KeepsTransmit s t := by
  obtain ⟨-, u, hu, rfl⟩ | ⟨-, hu⟩ := s.storeContent_cases c
  · cases hu.symm.trans h; exact ⟨rfl, rfl, rfl, rfl⟩
  · cases hu.symm.trans h

theorem processHeader_keepsTransmit (s : State) : KeepsTransmit s s.processHeader := by
  obtain ⟨-, hu⟩ | ⟨-, -, -, hu⟩ | ⟨-, -, -, hu⟩ | ⟨-, -, -, hu⟩ | ⟨-, -, -, hu⟩ := s.processHeader_cases <;> rw [hu] <;>
    exact ⟨rfl, rfl, rfl, rfl⟩

theorem execDfRhByte_keepsTransmit {b : Byte} (h : execDfRhByte b s = .next t) : KeepsTransmit s t := by
  obtain ⟨-, hu⟩ | ⟨-, hu⟩ | ⟨-, hu⟩ := execDfRhByte_cases b s
  · cases hu.symm.trans h; exact ⟨rfl, rfl, rfl, rfl⟩
  · cases hu.symm.trans h
    obtain ⟨htx, htp, hctl, henv⟩ := processHeader_keepsTransmit { s with rx := { s.rx with
      hdrBuf := s.rx.hdrBuf.setIfInBounds 12 b, hdrCnt := 13 } }
    exact ⟨htx, htp, hctl, henv⟩
  · cases hu.symm.trans h

theorem storeFooter_keepsTransmit {c : Byte} (h : s.storeFooter c = .next t) : KeepsTransmit s t := by
  obtain ⟨-, hu⟩ | ⟨-, hu⟩ | ⟨-, hu⟩ := s.storeFooter_cases c
  · cases hu.symm.trans h; exact ⟨rfl, rfl, rfl, rfl⟩
  · cases hu.symm.trans h
    obtain ⟨-, htx, htp, hctl, henv, -⟩ := State.completeFooter_frame { s with rx := { s.rx with
      ftrBuf := s.rx.ftrBuf.setIfInBounds 3 c, ftrPos := 4 } }
    exact ⟨htx, htp, hctl, henv⟩
  · cases hu.symm.trans h

/-- The cases named are the operations that branch or fault; every other one names its one next state. -/
theorem exec_keepsTransmit {i : Instr} (hi : IsDeframer i) (h : exec i s = .next t) : KeepsTransmit s t := by
  cases i with
  | dfRhByte b => exact execDfRhByte_keepsTransmit h
  | dfRcByte b => exact storeContent_keepsTransmit h
  | dfDstcEsc => exact storeContent_keepsTransmit h
  | dfRfByte b => exact storeFooter_keepsTransmit h
  | dfDstfEsc => exact storeFooter_keepsTransmit h
  | dfReserved low b => cases h
  | dfWfpStart | dfWfpOther b | dfRhStart | dfRhEsc | dfRcStart | dfRcStartLast | dfDstcStart | dfDstcOther b | dfRfStart
  | dfRfStartLast | dfDstfStart | dfDstfOther b => cases h; exact ⟨rfl, rfl, rfl, rfl⟩
  | _ => exact hi.elim

end Deframer

/-! ### The TX slots under the framer's updates (R37) -/

section Slots
variable {s : State} {p q : Prio} {e : TxEntry}

theorem setTxp_slot {x : TxPrio} (hx : x.slot = (s.txp p).slot) : ((s.setTxp p x).txp q).slot = (s.txp q).slot := by
  rw [State.setTxp_txp]
  split
  · next h => rw [h, hx]
  · rfl

theorem setHeadTx_slot : ((s.setHeadTx p e).txp q).slot = (s.txp q).slot := setTxp_slot rfl

theorem popTx_slot : ((s.popTx p).txp q).slot = (s.txp q).slot := setTxp_slot rfl

theorem recordFresh_slot : ((s.recordFresh p e).txp q).slot = (s.txp q).slot :=
  setHeadTx_slot.trans (setTxp_slot rfl)

theorem preempt_slot : ((s.preempt e).txp q).slot = (s.txp q).slot :=
  setHeadTx_slot.trans (setTxp_slot rfl)

theorem account_slot : ((s.account p e).txp q).slot = (s.txp q).slot := by
  unfold State.account
  dsimp only
  split <;> exact setTxp_slot rfl

theorem complete_slot : ((s.complete e).txp q).slot = (s.txp q).slot := by
  unfold State.complete
  dsimp only
  split
  · exact popTx_slot.trans account_slot
  · exact popTx_slot

end Slots

/-! ### What the framer leaves unchanged (R335, R324) -/

/-- Neither the deframer's side of the block nor a TX slot differs between `s` and `t`, and at most FATAL was set. -/
structure KeepsReceive (s t : State) : Prop where
  rx     : t.rx = s.rx
  rxPrio : t.rxPrio = s.rxPrio
  ctl    : t.ctl = s.ctl ∨ t.ctl = { s.ctl with fatal := true }
  slot   : ∀ p, (t.txp p).slot = (s.txp p).slot

section Framer
variable {s t u : State} {p : Prio} {e : TxEntry}

theorem KeepsReceive.refl (s : State) : KeepsReceive s s := ⟨rfl, rfl, .inl rfl, fun _ => rfl⟩

theorem KeepsReceive.trans (h : KeepsReceive s t) (k : KeepsReceive t u) : KeepsReceive s u where
  rx := k.rx.trans h.rx
  rxPrio := k.rxPrio.trans h.rxPrio
  slot := fun p => (k.slot p).trans (h.slot p)
  ctl := by
    obtain hk | hk := k.ctl
    · rw [hk]; exact h.ctl
    · obtain hh | hh := h.ctl <;> exact .inr (by rw [hk, hh])

/-- The framer's registers and the interfaces are its own. -/
theorem KeepsReceive.withFramer (h : KeepsReceive s t) (f : Framer) (v : Env) :
    KeepsReceive s { t with tx := f, env := v } :=
  ⟨h.rx, h.rxPrio, h.ctl, h.slot⟩

theorem headerWritten_keepsReceive (s : State) (e : TxEntry) : KeepsReceive s (s.headerWritten e) :=
  (KeepsReceive.refl s).withFramer _ _

theorem bodySent_keepsReceive (s : State) (e : TxEntry) : KeepsReceive s (s.bodySent e) :=
  (KeepsReceive.refl s).withFramer _ _

theorem recordFresh_keepsReceive (s : State) (p : Prio) (e : TxEntry) : KeepsReceive s (s.recordFresh p e) :=
  ⟨State.recordFresh_rx .., State.recordFresh_rxPrio .., .inl (State.recordFresh_ctl ..), fun _ => recordFresh_slot⟩

theorem complete_keepsReceive (s : State) (e : TxEntry) : KeepsReceive s (s.complete e) :=
  ⟨State.complete_rx .., State.complete_rxPrio .., .inl (State.complete_ctl ..), fun _ => complete_slot⟩

theorem preempt_keepsReceive (s : State) (e : TxEntry) : KeepsReceive s (s.preempt e) :=
  ⟨State.preempt_rx .., State.preempt_rxPrio .., .inl (State.preempt_ctl ..), fun _ => preempt_slot⟩

theorem raise_fatal_keepsReceive (s : State) : KeepsReceive s (s.raise .fatal) :=
  ⟨rfl, rfl, .inr rfl, fun _ => rfl⟩

theorem KeepsReceive.enterWait (h : KeepsReceive s t) (next : FState) (final : Bool) :
    (t.enterWait next final).All (KeepsReceive s) :=
  h.withFramer _ _

theorem opGnp_keepsReceive (s : State) : (opGnp s).All (KeepsReceive s) := by
  obtain ⟨-, hu⟩ | ⟨p, e, -, -, ⟨-, hu⟩ | ⟨-, -, hu⟩ | ⟨-, -, -, hu⟩⟩ := opGnp_cases s <;> rw [hu]
  · exact .refl s
  · exact (recordFresh_keepsReceive s p e).withFramer _ _
  · exact raise_fatal_keepsReceive s
  · exact (KeepsReceive.refl s).withFramer _ _

theorem opShb_keepsReceive (s : State) : (opShb s).All (KeepsReceive s) := by
  obtain ⟨-, hu⟩ | ⟨-, -, hu⟩ | ⟨e, -, -, ⟨-, hu⟩ | ⟨-, ⟨-, hu⟩ | ⟨-, hu⟩⟩⟩ := opShb_cases s <;> rw [hu]
  · exact (KeepsReceive.refl s).enterWait _ _
  · trivial
  · exact (headerWritten_keepsReceive s e).enterWait _ _
  · exact headerWritten_keepsReceive s e
  · exact headerWritten_keepsReceive s e

theorem opWhbi_keepsReceive (s : State) : (opWhbi s).All (KeepsReceive s) := by
  obtain ⟨-, hu⟩ | ⟨-, -, hu⟩ | ⟨-, -, hu⟩ := opWhbi_cases s <;> rw [hu] <;> exact (KeepsReceive.refl s).withFramer _ _

theorem opSb_keepsReceive (s : State) : (opSb s).All (KeepsReceive s) := by
  obtain ⟨-, hu⟩ | ⟨-, -, hu⟩ | ⟨e, -, -, ⟨-, hu⟩ | ⟨-, ⟨-, hu⟩ | ⟨-, ⟨-, hu⟩ | ⟨-, ⟨-, hu⟩ | ⟨-, hu⟩⟩⟩⟩⟩ :=
    opSb_cases s <;> rw [hu]
  · exact (KeepsReceive.refl s).enterWait _ _
  · trivial
  · exact ((bodySent_keepsReceive s e).trans (complete_keepsReceive _ e)).enterWait _ _
  · exact ((bodySent_keepsReceive s e).trans (preempt_keepsReceive _ e)).enterWait _ _
  · exact (bodySent_keepsReceive s e).enterWait _ _
  · exact bodySent_keepsReceive s e
  · exact bodySent_keepsReceive s e

theorem opWbi_keepsReceive (s : State) : (opWbi s).All (KeepsReceive s) := by
  obtain ⟨-, hu⟩ | ⟨-, -, hu⟩ | ⟨-, -, hu⟩ := opWbi_cases s <;> rw [hu] <;> exact (KeepsReceive.refl s).withFramer _ _

theorem opWpbi_keepsReceive (s : State) : (opWpbi s).All (KeepsReceive s) := by
  obtain ⟨-, hu⟩ | ⟨-, hu⟩ := opWpbi_cases s <;> rw [hu] <;> exact (KeepsReceive.refl s).withFramer _ _

theorem opOf_keepsReceive (s : State) : (opOf s).All (KeepsReceive s) := by
  unfold opOf
  split
  · exact opGnp_keepsReceive s
  · exact opShb_keepsReceive s
  · exact opWhbi_keepsReceive s
  · exact opSb_keepsReceive s
  · exact opWbi_keepsReceive s
  · exact opWpbi_keepsReceive s
  · exact .refl s
  · trivial

/-- A tick (R200). -/
theorem finishTick_opOf_keepsReceive {k : Nat} (h : finishTick k (opOf s) = .next t) : KeepsReceive s t :=
  finishTick_all (Q := KeepsReceive s) (fun u _ hu => hu.withFramer u.tx _)
    (fun u hu => (opOf_keepsReceive u).imp fun _ => hu.trans) k _ (opOf_keepsReceive s) h

end Framer

/-! ### The two events (R113, R115) -/

section Events
variable {s t : State}

/-- A tick runs the operation of the framer's state, or none where the framer is off (R115, R220). -/
theorem step_tick_keepsReceive {now : W64} {ws : List Nat} {rest : List Event}
    (hp : s.env.pending = .tick now ws :: rest) (h : step s = .next t) : KeepsReceive (s.latch rest now ws) t := by
  have hexec := (step_tick hp).symm.trans h
  cases hen : s.ctl.txEn with
  | false =>
    have hoff : TickSelects s (.frOff s.tx.fstate.code) := (tickSelects_disabled hen).2 rfl
    rw [hoff] at hexec
    cases hexec
    exact (KeepsReceive.refl _).withFramer s.tx _
  | true =>
    have hrow : TickSelects s s.tx.fstate.row := (tickSelects_enabled hen).2 rfl
    rw [hrow] at hexec
    exact finishTick_opOf_keepsReceive ((exec_row (s.latch rest now ws)).symm.trans hexec)

/-- A byte that is not taken changes no item; one that is taken selects a deframer operation (R113, R141). -/
theorem step_link_keepsTransmit {b : Byte} {now : W64} {rest : List Event} (hp : s.env.pending = .link b now :: rest)
    (h : step s = .next t) : KeepsTransmit ((s.latch rest now []).setTaken s.ctl.rxEn) t := by
  cases hen : s.ctl.rxEn with
  | false => cases (step_link_disabled hp hen).symm.trans h; exact ⟨rfl, rfl, rfl, rfl⟩
  | true =>
    have hexec := (step_link_enabled hp hen).symm.trans h
    rw [decode_dfbWord] at hexec
    exact exec_keepsTransmit (isDeframer_decodeDfb ..) hexec

end Events

end Sys2Proof.Machine

namespace Sys2Proof.Proofs

open Sys2Proof Sys2Proof.Machine Sys2Proof.Claims

/-- Settles O54: what a deframer operation and what a tick leave unchanged; taking the event off the list writes interfaces
only. -/
theorem enginesAreDisjoint : Obligations.EnginesAreDisjoint := by
  refine ⟨fun s t b now rest hp h => ?link, fun s t now ws rest hp h => ?tick⟩
  case link =>
    obtain ⟨htx, htp, hctl, henv⟩ := step_link_keepsTransmit hp h
    exact ⟨htx, htp, hctl, by rw [henv]; rfl⟩
  case tick =>
    obtain ⟨hrx, hrp, hctl, hslot⟩ := step_tick_keepsReceive hp h
    exact ⟨hrx, hrp, hctl, hslot⟩

end Sys2Proof.Proofs

/-! ### Hard reset (spec/70_reset_and_hazards.md R360) -/

namespace Sys2Proof.Proofs

open Sys2Proof Sys2Proof.Machine Sys2Proof.Claims

/-- The parameters (R10) and the environment are no items of spec/10_state.md: the reset values do not read them. -/
theorem atReset_withParamsEnv {s : State} (h : AtReset s) (P : Params) (v : Env) :
    AtReset { s with params := P, env := v } := by
  obtain ⟨hrx, htx, hrxp, htxp, hctl, hctrlWord, hstatusWord⟩ := h
  exact ⟨hrx, htx, hrxp, htxp, hctl, hctrlWord, hstatusWord⟩

/-- Settles O10: the event's step is `State.hardReset`, which is the reset state (`resetValues`) with the parameters and the
environment of `s`. -/
theorem hardResetEvent : Obligations.HardResetEvent := by
  intro s rest hp
  have hreset := atReset_withParamsEnv resetValues s.params { s.env with pending := rest, epoch := s.env.epoch + 1 }
  exact ⟨_, step_hardReset hp, hreset, rfl, rfl⟩

end Sys2Proof.Proofs
